-- ==== Sys2Proof/Word.lean ====
section
/-! DEFINITION. The widths the spec fixes (00_scope.md R11, R12): the words a register, a sample, a byte and a 64-bit counter are held in. -/

namespace Sys2Proof

/-- A 32-bit register or bus word (R11). -/
abbrev Word := BitVec 32

/-- A byte of a byte-serialised bus (20_memory.md R64). -/
abbrev Byte := BitVec 8

/-- A signed 16-bit sample: waveform, filtered or output sample, running average, history entry (R11). -/
abbrev Sample := BitVec 16

/-- A 16-bit byte address of the register space (20_memory.md R60). -/
abbrev Addr := BitVec 16

/-- The unsigned 64-bit counters COUNT and NEXT_TICK (R11). -/
abbrev Count := BitVec 64

end Sys2Proof
end

