-- ==== Sys2Proof/Machine/Arith.lean ====
section
/-! DEFINITION. The named arithmetic of 00_scope.md R13: pseudocode computes in unbounded integers, and a value goes into a register through one of these. -/

namespace Sys2Proof.Machine

/-- R13: `sat16`, saturation to the signed 16-bit range. -/
def sat16 (v : Int) : Int := min (max v (-32768)) 32767

/-- R13: `sat32`, saturation to the signed 32-bit range. -/
def sat32 (v : Int) : Int := min (max v (-2147483648)) 2147483647

/-- R13: `clamp`. -/
def clamp (v lo hi : Int) : Int := min (max v lo) hi

/-- R13: `asr`, a shift right that rounds toward minus infinity. -/
def asr (v : Int) (n : Nat) : Int := v / ((2 ^ n : Nat) : Int)

/-- R13, R14: `tdiv`, division that truncates toward zero. -/
def tdiv (a b : Int) : Int := Int.tdiv a b

/-- The 32-bit register pattern of an integer: `wrapU_32` of it read unsigned, `wrapS_32` read signed. -/
def toWord (v : Int) : Word := BitVec.ofInt 32 v

/-- The 16-bit pattern of an integer. -/
def toSample (v : Int) : Sample := BitVec.ofInt 16 v

/-- The 64-bit pattern of an integer: `wrapU_64`. -/
def toCount (v : Int) : Count := BitVec.ofInt 64 v

/-- R13: a register declared unsigned is read as its unsigned value. -/
def u32 (w : Word) : Int := (w.toNat : Int)

/-- The largest value of a signed 32-bit register. -/
def s32Max : Int := 2147483647

/-- R13: an integer that goes into a signed 32-bit register where the spec has it in range by construction; outside the range the
spec states no result, and the register takes the value `free`. -/
def s32Or (free : Word) (v : Int) : Word := if -2147483648 ≤ v ∧ v ≤ s32Max then toWord v else free

/-- Unity, 0x10000 (R19). -/
def unity : Int := 65536

end Sys2Proof.Machine
end

