-- ==== Sys2Proof/Config.lean ====
section
/-! DEFINITION. The implementation parameters of 00_scope.md R6 to R10: the waveform generator, left open, and the reference values of NUM_PAIRS, HIST_LOG2 and QDEPTH; and the free values of log entry 21. -/

namespace Sys2Proof

/-- The type of a waveform generator: selector and phase to a sample (R8). -/
abbrev WaveFn := Word → Word → Sample

namespace Config

/-- R8: the waveform generator `waveFn`. Total and pure, and nothing else is assumed of it: it has no
body, so a statement that mentions it holds for every generator. -/
opaque waveFn : WaveFn

/-- DESIGN CHOICE (log entry 21), safe: PRE_VOL after an ENV.RELEASE whose difference does not fit a signed 32-bit register, by
PRE_VOL and RELEASE before. 42_envelope_lfo.md R122 takes the variant with RELEASE >= 1 only, where the difference fits; the
spec states no result elsewhere, so the value is free. -/
opaque releaseOutOfRange : Word → Word → Word

/-- DESIGN CHOICE (log entry 21), safe: PRE_VOL after an ENV.ATTACK whose sum does not fit a signed 32-bit register, by PRE_VOL
and ATTACK before. R123 takes the variant with ATTACK >= 1 only, where the sum fits. -/
opaque attackOutOfRange : Word → Word → Word

/-- R6: the reference value of `NUM_PAIRS`. A machine of another size is a state with another number of pairs. -/
def numPairs : Nat := 4

/-- R7: the reference value of `HIST_LOG2`. -/
def histLog2 : Nat := 17

/-- R10: the reference value of `QDEPTH`, which has no architectural effect: nothing reads it. -/
def qDepth : Nat := 64

/-- R6: `NUM_PAIRS` is in 1 to 56. -/
def numPairsOk (n : Nat) : Bool := decide (1 ≤ n) && decide (n ≤ 56)

/-- R7: `HIST_LOG2` is in 2 to 24. -/
def histLog2Ok (h : Nat) : Bool := decide (2 ≤ h) && decide (h ≤ 24)

end Config
end Sys2Proof
end

