-- ==== Sys2Proof/Syntax.lean ====
section
/-! DEFINITION. The syntax: the registers by name, and `Instr`, one constructor per row of spec/opcode_table.json (host transactions and internal operations). -/

namespace Sys2Proof

/-- The global registers, in the order of their offsets (10_state.md R20). -/
inductive GlobReg where
  | id | config | ctrl | status | seqAck | sampleRate | bpm | tickRate | tickSpeed | tickCounter
  | countLo | countHi | nextTickLo | nextTickHi | outL | outR
  deriving DecidableEq, Repr

/-- The channel registers, in the order of their offsets (10_state.md R30). -/
inductive ChReg where
  | waveSel | mode | note | slide | preVol | postVol | fade | length | phase | period | delayReq | delay
  | filterW | avg | cursor | dry | wet | feedback | attack | decay | peak | sustain | release | envPos
  | noteOn | tremDepth | tremSel | tremRate | tremPhase | tremLevel | vibDepth | vibSel | vibRate
  | vibPhase | vibLevel
  deriving DecidableEq, Repr

/-- What a WRITE.REG may address (30_encoding.md R86 row 8): three global registers, or a register of a channel. -/
inductive RegTarget where
  | bpm
  | tickRate
  | tickSpeed
  | chan (c : Nat) (r : ChReg)
  deriving DecidableEq, Repr

/-- The pairing modes (30_encoding.md R93). -/
inductive PairMode where
  | stereo | pm | am | sync
  deriving DecidableEq, Repr

/-- The instructions: one constructor per row of the opcode table. The first nine are host transactions
(30_encoding.md R86); the others are internal operations (R90), which no transaction encodes. `c` is a channel
index, `p` a pair index; the other operands of an internal operation are the arguments its pseudocode names. -/
inductive Instr where
  -- host transactions
  | void (op : BitVec 2) (rsv : BitVec 14) (baddr : Addr) (data : Option Word)
  | nop (baddr : Addr)
  | read (baddr : Addr)
  | writeCtrl (data : Word)
  | writeSeqAck (data : Word)
  | writeSampleRate (data : Word)
  | writePair (p : Nat) (r : ChReg) (data : Word)
  | writeReg (t : RegTarget) (data : Word)
  | writeIgnored (baddr : Addr) (data : Word)
  -- reset and output step
  | reset
  | outputStepA
  -- tick scheduler
  | tick
  | chTickSlide (c : Nat)
  | chTickFade (c : Nat)
  | envIdle (c : Nat)
  | envRelease (c : Nat)
  | envAttack (c : Nat)
  | envDecay (c : Nat)
  | envSustain (c : Nat)
  | lfoTrem (c : Nat)
  | lfoVib (c : Nat)
  | dreqNone (c : Nat)
  | dreqTicks (c : Nat)
  | dreqNote (c : Nat)
  | dreqRsvd (c : Nat)
  | chTickWidth (c : Nat)
  | chTickPeriod (c : Nat)
  -- callback and second half of the output step
  | seqRequest
  | outputStepB
  -- pair worker
  | ncoAdvance (c : Nat)
  | voiceScale (c : Nat) (s : Sample)
  | dfStep (c : Nat) (x : Sample)
  | pairStereo (p : Nat)
  | pairPm (p : Nat)
  | pairAm (p : Nat)
  | pairSync (p : Nat)
  | pairStep (p : Nat)
  -- mixer
  | mix (outs : List (Sample × Sample))
  | emit (l r : Sample)
  deriving DecidableEq, Repr

/-- The rows of 30_encoding.md R86: the instructions the host sends as words. -/
def Instr.isTransaction : Instr → Bool
  | .void .. | .nop _ | .read _ | .writeCtrl _ | .writeSeqAck _ | .writeSampleRate _ | .writePair ..
  | .writeReg .. | .writeIgnored .. => true
  | .reset | .outputStepA | .tick | .chTickSlide _ | .chTickFade _ | .envIdle _ | .envRelease _
  | .envAttack _ | .envDecay _ | .envSustain _ | .lfoTrem _ | .lfoVib _ | .dreqNone _ | .dreqTicks _
  | .dreqNote _ | .dreqRsvd _ | .chTickWidth _ | .chTickPeriod _ | .seqRequest | .outputStepB
  | .ncoAdvance _ | .voiceScale .. | .dfStep .. | .pairStereo _ | .pairPm _ | .pairAm _ | .pairSync _
  | .pairStep _ | .mix _ | .emit .. => false

end Sys2Proof
end

