-- ==== Sys2Proof/Decode.lean ====
section
/-! DEFINITION. The encodings of 30_encoding.md: the register offsets, the fields of HDR, the address decode, the decoder of host transactions (total, rejecting by name), the selectors of internal operations, and after them the encoder. -/

namespace Sys2Proof

/-! ### Register offsets (10_state.md R20, R30; 30_encoding.md R87) -/

/-- R20: the byte offset of a global register. -/
def GlobReg.offset : GlobReg → Nat
  | .id => 0x00
  | .config => 0x04
  | .ctrl => 0x08
  | .status => 0x0C
  | .seqAck => 0x10
  | .sampleRate => 0x14
  | .bpm => 0x18
  | .tickRate => 0x1C
  | .tickSpeed => 0x20
  | .tickCounter => 0x24
  | .countLo => 0x28
  | .countHi => 0x2C
  | .nextTickLo => 0x30
  | .nextTickHi => 0x34
  | .outL => 0x38
  | .outR => 0x3C

/-- Every global register. -/
def GlobReg.all : List GlobReg :=
  [.id, .config, .ctrl, .status, .seqAck, .sampleRate, .bpm, .tickRate, .tickSpeed, .tickCounter, .countLo,
    .countHi, .nextTickLo, .nextTickHi, .outL, .outR]

/-- R20: the global register at a byte offset, if there is one. -/
def GlobReg.ofOffset (off : Nat) : Option GlobReg := GlobReg.all.find? (fun r => r.offset == off)

/-- R30: the byte offset of a register inside its channel block. -/
def ChReg.offset : ChReg → Nat
  | .waveSel => 0x00
  | .mode => 0x04
  | .note => 0x08
  | .slide => 0x0C
  | .preVol => 0x10
  | .postVol => 0x14
  | .fade => 0x18
  | .length => 0x1C
  | .phase => 0x20
  | .period => 0x24
  | .delayReq => 0x28
  | .delay => 0x2C
  | .filterW => 0x30
  | .avg => 0x34
  | .cursor => 0x38
  | .dry => 0x3C
  | .wet => 0x40
  | .feedback => 0x44
  | .attack => 0x48
  | .decay => 0x4C
  | .peak => 0x50
  | .sustain => 0x54
  | .release => 0x58
  | .envPos => 0x5C
  | .noteOn => 0x60
  | .tremDepth => 0x64
  | .tremSel => 0x68
  | .tremRate => 0x6C
  | .tremPhase => 0x70
  | .tremLevel => 0x74
  | .vibDepth => 0x78
  | .vibSel => 0x7C
  | .vibRate => 0x80
  | .vibPhase => 0x84
  | .vibLevel => 0x88

/-- Every channel register. -/
def ChReg.all : List ChReg :=
  [.waveSel, .mode, .note, .slide, .preVol, .postVol, .fade, .length, .phase, .period, .delayReq, .delay, .filterW,
    .avg, .cursor, .dry, .wet, .feedback, .attack, .decay, .peak, .sustain, .release, .envPos, .noteOn, .tremDepth,
    .tremSel, .tremRate, .tremPhase, .tremLevel, .vibDepth, .vibSel, .vibRate, .vibPhase, .vibLevel]

/-- R30: the channel register at an offset; none at a misaligned offset or at 0x8C and above (R84). -/
def ChReg.ofOffset (off : Nat) : Option ChReg := ChReg.all.find? (fun r => r.offset == off)

/-- R87: the registers that WRITE.REG and WRITE.PAIR store to. The read-only ones are the sample-rate and the
derived fields of 10_state.md R51. -/
def ChReg.writable : ChReg → Bool
  | .phase | .period | .delay | .avg | .cursor | .tremLevel | .vibLevel => false
  | .waveSel | .mode | .note | .slide | .preVol | .postVol | .fade | .length | .delayReq | .filterW | .dry
  | .wet | .feedback | .attack | .decay | .peak | .sustain | .release | .envPos | .noteOn | .tremDepth
  | .tremSel | .tremRate | .tremPhase | .vibDepth | .vibSel | .vibRate | .vibPhase => true

/-! ### The fields of HDR (R81) -/

/-- HDR[31:30]. -/
def hdrOp (hdr : Word) : BitVec 2 := hdr.extractLsb' 30 2

/-- HDR[29:16]. -/
def hdrRsv (hdr : Word) : BitVec 14 := hdr.extractLsb' 16 14

/-- HDR[15:0]. -/
def hdrBaddr (hdr : Word) : Addr := hdr.extractLsb' 0 16

/-- BADDR[1:0] = 00 (20_memory.md R65). -/
def aligned (b : Addr) : Bool := b.extractLsb' 0 2 == 0

/-- R83: a transaction is void if OP is 11, if RSV is not 0, or if BADDR is misaligned. -/
def isVoid (op : BitVec 2) (rsv : BitVec 14) (b : Addr) : Bool := op == 3 || rsv != 0 || !aligned b

/-! ### Address decode (R84, R85) -/

/-- What a byte address names (R84): a global register, an offset in a channel block, an offset in a
pair-broadcast block, or nothing. -/
inductive Region where
  | glob (r : GlobReg)
  | chan (c : Nat) (off : Nat)
  | pair (p : Nat) (off : Nat)
  | reserved
  deriving DecidableEq, Repr

/-- BADDR[14:8], the block number of R85. -/
def addrBlock (b : Addr) : Nat := (b.extractLsb' 8 7).toNat

/-- BADDR[7:0], the register offset of R85. -/
def addrOff (b : Addr) : Nat := (b.extractLsb' 0 8).toNat

/-- R84: the decode of an address on a core with `numPairs` pairs. The first matching line wins. -/
def decodeAddr (numPairs : Nat) (b : Addr) : Region :=
  if (b.extractLsb' 15 1).toNat = 0 ∧ (b.extractLsb' 12 3).toNat = 0 then
    if (b.extractLsb' 0 12).toNat < 0x40 then
      match GlobReg.ofOffset (b.extractLsb' 0 12).toNat with
      | some r => .glob r
      | none => .reserved
    else .reserved
  else if (b.extractLsb' 15 1).toNat = 0 then
    if addrBlock b - 0x10 < 2 * numPairs then .chan (addrBlock b - 0x10) (addrOff b) else .reserved
  else
    if addrBlock b < numPairs then .pair (addrBlock b) (addrOff b) else .reserved

/-! ### The transaction decoder (R80, R86) -/

/-- Why a sequence of words is no transaction. Neither reason is an encoding the spec defines: every 32-bit
header has a meaning (R89), so a sequence is rejected only for lacking a word that R80 asks for. -/
inductive DecodeError where
  | noHeader
  | noData
  deriving DecidableEq, Repr

/-- R86 rows 4 to 9: the WRITE at an aligned address, in the decoder's priority order. -/
def decodeWrite (numPairs : Nat) (b : Addr) (data : Word) : Instr :=
  match decodeAddr numPairs b with
  | .glob .ctrl => .writeCtrl data
  | .glob .seqAck => .writeSeqAck data
  | .glob .sampleRate => .writeSampleRate data
  | .pair p off =>
    match ChReg.ofOffset off with
    | some r => if r.writable then .writePair p r data else .writeIgnored b data
    | none => .writeIgnored b data
  | .glob .bpm => .writeReg .bpm data
  | .glob .tickRate => .writeReg .tickRate data
  | .glob .tickSpeed => .writeReg .tickSpeed data
  | .chan c off =>
    match ChReg.ofOffset off with
    | some r => if r.writable then .writeReg (.chan c r) data else .writeIgnored b data
    | none => .writeIgnored b data
  | .glob .id | .glob .config | .glob .status | .glob .tickCounter | .glob .countLo | .glob .countHi
  | .glob .nextTickLo | .glob .nextTickHi | .glob .outL | .glob .outR | .reserved => .writeIgnored b data

/-- R80, R86: one transaction off the front of a sequence of bus words, and the words after it. OP alone gives
the length: 2 words when it is 10, void or not, else 1. -/
def decode (numPairs : Nat) : List Word → Except DecodeError (Instr × List Word)
  | [] => .error .noHeader
  | hdr :: rest =>
    let op := hdrOp hdr
    let rsv := hdrRsv hdr
    let b := hdrBaddr hdr
    if op = 2 then
      match rest with
      | [] => .error .noData
      | data :: rest' =>
        if isVoid op rsv b then .ok (.void op rsv b (some data), rest') else .ok (decodeWrite numPairs b data, rest')
    else if isVoid op rsv b then .ok (.void op rsv b none, rest)
    else if op = 0 then .ok (.nop b, rest)
    else .ok (.read b, rest)

/-- 20_memory.md R64: four bytes, lowest address first, as one word. -/
def wordOfBytes (b0 b1 b2 b3 : Byte) : Word := b3 ++ b2 ++ b1 ++ b0

/-- The whole words at the front of a byte sequence. -/
def wordsOfBytes : List Byte → List Word
  | b0 :: b1 :: b2 :: b3 :: rest => wordOfBytes b0 b1 b2 b3 :: wordsOfBytes rest
  | _ => []

/-- R64: a word as four bytes, little-endian. -/
def bytesOfWord (w : Word) : List Byte :=
  [w.extractLsb' 0 8, w.extractLsb' 8 8, w.extractLsb' 16 8, w.extractLsb' 24 8]

/-- The decoder on a byte-serialised bus; total on any bytes. -/
def decodeBytes (numPairs : Nat) (bs : List Byte) : Except DecodeError (Instr × List Word) :=
  decode numPairs (wordsOfBytes bs)

/-! ### The selectors of internal operations (R92 is in Machine/Envelope.lean: it reads channel fields) -/

/-- R93: the pairing mode a MODE field selects. -/
def decodeMode (m : BitVec 2) : PairMode :=
  if m = 0 then .stereo else if m = 1 then .pm else if m = 2 then .am else .sync

/-- R93: the pair-step variant of pair `p`. -/
def selectPair (m : BitVec 2) (p : Nat) : Instr :=
  match decodeMode m with
  | .stereo => .pairStereo p
  | .pm => .pairPm p
  | .am => .pairAm p
  | .sync => .pairSync p

/-- R94: DELAY_REQ[31:30], the tag of a delay request. -/
def dreqTag (q : Word) : BitVec 2 := q.extractLsb' 30 2

/-- R94: DELAY_REQ[29:0], the count of a delay request. -/
def dreqCount (q : Word) : Nat := (q.extractLsb' 0 30).toNat

/-- R94: the delay-request variant of channel `c`'s tick. -/
def selectDreq (q : Word) (c : Nat) : Instr :=
  if dreqTag q = 0 then .dreqNone c
  else if dreqTag q = 1 then .dreqTicks c
  else if dreqTag q = 2 then .dreqNote c
  else .dreqRsvd c

/-! ### The encoder -/

/-- R81: a header word from its fields. -/
def mkHdr (op : BitVec 2) (rsv : BitVec 14) (b : Addr) : Word := op ++ rsv ++ b

/-- R85: the byte address of register `r` of channel `c`. -/
def chanAddr (c : Nat) (r : ChReg) : Addr := BitVec.ofNat 16 (0x1000 + 0x100 * c + r.offset)

/-- R85: the byte address of register `r` in the alias of pair `p`. -/
def pairAddr (p : Nat) (r : ChReg) : Addr := BitVec.ofNat 16 (0x8000 + 0x100 * p + r.offset)

/-- R20: the byte address of a global register. -/
def globAddr (r : GlobReg) : Addr := BitVec.ofNat 16 r.offset

/-- The byte address of a WRITE.REG's target. -/
def RegTarget.addr : RegTarget → Addr
  | .bpm => globAddr .bpm
  | .tickRate => globAddr .tickRate
  | .tickSpeed => globAddr .tickSpeed
  | .chan c r => chanAddr c r

/-- R80, R81, R85: the words of a transaction. An internal operation has none (R90). -/
def encode : Instr → List Word
  | .void op rsv b data => mkHdr op rsv b :: data.toList
  | .nop b => [mkHdr 0 0 b]
  | .read b => [mkHdr 1 0 b]
  | .writeCtrl data => [mkHdr 2 0 (globAddr .ctrl), data]
  | .writeSeqAck data => [mkHdr 2 0 (globAddr .seqAck), data]
  | .writeSampleRate data => [mkHdr 2 0 (globAddr .sampleRate), data]
  | .writePair p r data => [mkHdr 2 0 (pairAddr p r), data]
  | .writeReg t data => [mkHdr 2 0 t.addr, data]
  | .writeIgnored b data => [mkHdr 2 0 b, data]
  | .reset | .outputStepA | .tick | .chTickSlide _ | .chTickFade _ | .envIdle _ | .envRelease _
  | .envAttack _ | .envDecay _ | .envSustain _ | .lfoTrem _ | .lfoVib _ | .dreqNone _ | .dreqTicks _
  | .dreqNote _ | .dreqRsvd _ | .chTickWidth _ | .chTickPeriod _ | .seqRequest | .outputStepB
  | .ncoAdvance _ | .voiceScale .. | .dfStep .. | .pairStereo _ | .pairPm _ | .pairAm _ | .pairSync _
  | .pairStep _ | .mix _ | .emit .. => []

/-! ### The table's numbering -/

/-- The header and the data word of a table word: bit 0 is the least significant bit of HDR, DATA follows. -/
def tableWords (w : Nat) : List Word := [BitVec.ofNat 32 w, BitVec.ofNat 32 (w / 4294967296)]

/-- The words of `tableWords` that the transaction has (R80): DATA only when OP is 10. -/
def tableTransaction (w : Nat) : List Word :=
  if hdrOp (BitVec.ofNat 32 w) = 2 then tableWords w else [BitVec.ofNat 32 w]

/-- The instruction read from a table word. A word of more than one byte is a transaction, laid out in
bytes and given to the decoder of the reference machine. A one-byte word is no transaction: the table
gives one to the PAIR.* rows only, whose two bits are the MODE field of a left channel (R93), here pair 0's. The DREQ.* rows' 32 bits are the bits of a DELAY_REQ register and cannot be told from a
header; read as an instruction they are the transaction they spell (R90, log entry 8). -/
def decodeTableWord (nbits w : Nat) : Option Instr :=
  if nbits ≤ 8 then some (selectPair (BitVec.ofNat 2 w) 0)
  else
    match decodeBytes Config.numPairs ((tableWords w).flatMap bytesOfWord) with
    | .ok (i, _) => some i
    | .error _ => none

end Sys2Proof
end

