-- ==== Sys2Proof/Machine/State.lean ====
section
/-! DEFINITION. The state as plain data: every register, buffer and status bit of 10_state.md, the events to come, the reasons a step can stop, and the state after reset. -/

namespace Sys2Proof.Machine

/-- A history buffer's contents (10_state.md R45): the entries that are not 0, by rising index. An entry
that is not listed reads 0, its reset value (R50). One cell is one s16 entry, the buffer's smallest unit
(20_memory.md R62). -/
abbrev Memory := List (Nat × Sample)

/-- One channel: the registers of R30, in the order of their offsets, and the history buffer of R45. -/
structure Channel where
  waveSel : Word
  mode : BitVec 2
  note : Word
  slide : Word
  preVol : Word
  postVol : Word
  fade : Word
  length : Word
  phase : Word
  period : Word
  delayReq : Word
  delay : Word
  filterW : Word
  avg : Sample
  cursor : Word
  dry : Word
  wet : Word
  feedback : Word
  attack : Word
  decay : Word
  peak : Word
  sustain : Word
  release : Word
  envPos : Word
  noteOn : Bool
  tremDepth : Word
  tremSel : Word
  tremRate : Word
  tremPhase : BitVec 16
  tremLevel : Word
  vibDepth : Word
  vibSel : Word
  vibRate : Word
  vibPhase : BitVec 16
  vibLevel : Word
  hist : Memory
  deriving DecidableEq, Repr

/-- A pair: its left channel `2p` and its right channel `2p + 1` (00_scope.md R15). -/
structure Pair where
  left : Channel
  right : Channel
  deriving DecidableEq, Repr

/-- What happens next in the total order of 20_memory.md R71: the host issues a transaction, given by its
words; the core takes its enabled operation, if it has one (45_mixer_control.md R150); the reset input is
asserted (70_reset_and_hazards.md R191). -/
inductive Event where
  | txn (words : List Word)
  | coreTurn
  | resetLine
  deriving DecidableEq, Repr

/-- Why the machine stops with a fault. The hardware has no faults (60_exceptions.md R170): each of these is
raised only for a term that is no operation of the machine (`Instr.wf` refuses it), and each is safe. -/
inductive Fault where
  /-- Raised by an internal operation run on a channel `c >= NUM_CH` (10_state.md R30). Safe. -/
  | absentChannel (c : Nat)
  /-- Raised by a pair step of a pair `p >= NUM_PAIRS` (00_scope.md R6). Safe. -/
  | absentPair (p : Nat)
  /-- Raised by MIX run on a number of pair outputs that is not NUM_PAIRS (45_mixer_control.md R154). Safe. -/
  | pairOutputCount (got : Nat)
  deriving DecidableEq, Repr

/-- Why the machine refuses to go on. -/
inductive Refusal where
  /-- Raised by an arm of `exec` that has no meaning yet. Safe. -/
  | notModelled (mnemonic : String)
  /-- Raised by the fetch when an agenda entry's words are not one whole transaction: a word of R80 is
  missing. No such thing is on the bus of 30_encoding.md. Safe. -/
  | badTransaction (e : DecodeError)
  /-- Raised by the fetch when an agenda entry holds words after its transaction. Safe. -/
  | trailingWords (n : Nat)
  deriving DecidableEq, Repr

/-- The machine. CTRL is `run`; STATUS is `started`, `seqPending`, `midStep` (R23, R24); their other bits
read 0 and hold nothing. The last three fields are the model's own (INVENTORY.md, log entries 2 to 4). -/
structure State where
  /-- The channels, by pair (R30). Their number is NUM_PAIRS (00_scope.md R6). -/
  pairs : List Pair
  /-- HIST_LOG2 (00_scope.md R7). -/
  histLog2 : Nat
  run : Bool
  started : Bool
  seqPending : Bool
  midStep : Bool
  sampleRate : Word
  bpm : Word
  tickRate : Word
  tickSpeed : Word
  tickCounter : Word
  count : Count
  nextTick : Count
  outL : Sample
  outR : Sample
  /-- `core.out`, oldest first (R50). -/
  out : List (Sample × Sample)
  /-- The events to come, next first (20_memory.md R71). -/
  agenda : List Event
  /-- The RESP words returned to the host, oldest first (30_encoding.md R82). -/
  resp : List Word
  /-- What the last value-returning internal operation returned. -/
  ret : List Sample
  deriving DecidableEq, Repr

/-- The reset values of a channel (R30; R45 for the history buffer). -/
def Channel.reset : Channel where
  waveSel := 0
  mode := 0
  note := 0x003C0000
  slide := 0
  preVol := 0
  postVol := 0x8000
  fade := 0
  length := 0x10000
  phase := 0
  period := 0
  delayReq := 0
  delay := 0
  filterW := 1
  avg := 0
  cursor := 0
  dry := 0x10000
  wet := 0
  feedback := 0
  attack := 0
  decay := 0
  peak := 0
  sustain := 0
  release := 0
  envPos := 0
  noteOn := false
  tremDepth := 0
  tremSel := 0
  tremRate := 0
  tremPhase := 0
  tremLevel := 0
  vibDepth := 0
  vibSel := 0
  vibRate := 0
  vibPhase := 0
  vibLevel := 0
  hist := []

/-- The reset state of a core with the given parameters (R20, R30; 70_reset_and_hazards.md R190). -/
def State.resetWith (numPairs histLog2 : Nat) : State where
  pairs := List.replicate numPairs ⟨Channel.reset, Channel.reset⟩
  histLog2 := histLog2
  run := false
  started := false
  seqPending := false
  midStep := false
  sampleRate := 48000
  bpm := 120
  tickRate := 24
  tickSpeed := 6
  tickCounter := 0
  count := 0
  nextTick := 0
  outL := 0
  outR := 0
  out := []
  agenda := []
  resp := []
  ret := []

/-- The machine right after reset, at the reference parameters. -/
def State.reset : State := State.resetWith Config.numPairs Config.histLog2

end Sys2Proof.Machine
end

