-- ==== Sys2Proof/Machine/Ops.lean ====
section
/-! DEFINITION. The named operations over the state: history memory, channels by index, the callback's entry and return (the core's one interrupt-like event), the response to a READ, the output stream and its serialization to bytes. -/

namespace Sys2Proof.Machine

/-! ### History memory (10_state.md R45, 20_memory.md R62) -/

/-- The value of an entry that is not listed: its reset value (R50). -/
def histReset : Sample := 0

/-- Reading entry `i`. -/
def Memory.read : Memory → Nat → Sample
  | [], _ => histReset
  | (a, v) :: m, i => if a = i then v else Memory.read m i

/-- Writing entry `i`, in place, so that the list stays rising and lists no reset value. -/
def Memory.write : Memory → Nat → Sample → Memory
  | [], i, v => if v = histReset then [] else [(i, v)]
  | (a, w) :: m, i, v =>
    if i < a then (if v = histReset then (a, w) :: m else (i, v) :: (a, w) :: m)
    else if i = a then (if v = histReset then m else (i, v) :: m)
    else (a, w) :: Memory.write m i v

/-- The list rises strictly from `lo` on and holds no reset value. -/
def Memory.wfFrom : Nat → Memory → Bool
  | _, [] => true
  | lo, (a, v) :: m => decide (lo ≤ a) && (v != histReset) && Memory.wfFrom (a + 1) m

/-- The canonical form: strictly rising, no listed entry equal to what an unlisted one reads as. -/
def Memory.wf (m : Memory) : Bool := Memory.wfFrom 0 m

/-- Every listed entry is one of the buffer's `n`. -/
def Memory.within (n : Nat) (m : Memory) : Bool := m.all (fun e => decide (e.1 < n))

/-! ### Parameters (00_scope.md R6, R7) -/

/-- NUM_PAIRS. -/
def State.numPairs (s : State) : Nat := s.pairs.length

/-- NUM_CH = 2 NUM_PAIRS. -/
def State.numCh (s : State) : Nat := 2 * s.numPairs

/-- HIST_LEN = 2^HIST_LOG2. -/
def State.histLen (s : State) : Nat := 2 ^ s.histLog2

/-- MAX_DELAY = HIST_LEN / 2. -/
def State.maxDelay (s : State) : Nat := s.histLen / 2

/-- MAX_WIDTH = HIST_LEN / 2. -/
def State.maxWidth (s : State) : Nat := s.histLen / 2

/-! ### Channels by index (00_scope.md R15) -/

/-- `pairOf(c) = c / 2`. -/
def pairOf (c : Nat) : Nat := c / 2

/-- `sideOf(c) = c mod 2`: is `c` a left channel? -/
def isLeft (c : Nat) : Bool := c % 2 == 0

/-- A pair's channel on one side. -/
def Pair.get (isLeft : Bool) (pr : Pair) : Channel := if isLeft then pr.left else pr.right

/-- A pair with the channel on one side replaced. -/
def Pair.set (isLeft : Bool) (ch : Channel) (pr : Pair) : Pair :=
  if isLeft then { pr with left := ch } else { pr with right := ch }

/-- Both channels of a pair changed by one function. -/
def Pair.map (f : Channel → Channel) (pr : Pair) : Pair := ⟨f pr.left, f pr.right⟩

/-- Channel `c`, if the machine has it. -/
def State.chan? (s : State) (c : Nat) : Option Channel := (s.pairs[pairOf c]?).map (Pair.get (isLeft c))

/-- Channel `c` replaced; no change if the machine does not have it. -/
def State.setChan (s : State) (c : Nat) (ch : Channel) : State :=
  { s with pairs := s.pairs.modify (pairOf c) (Pair.set (isLeft c) ch) }

/-- Pair `p` replaced; no change if the machine does not have it. -/
def State.setPair (s : State) (p : Nat) (pr : Pair) : State :=
  { s with pairs := s.pairs.modify p (fun _ => pr) }

/-- An operation on one channel, as the meaning of an instruction. -/
def onChan (c : Nat) (f : Channel → Channel) (s : State) : Host.Outcome State Fault Refusal :=
  match s.chan? c with
  | some ch => .next (s.setChan c (f ch))
  | none => .fault (.absentChannel c)

/-! ### The callback, the one interrupt-like event (60_exceptions.md R172 to R177) -/

/-- The entry (R175; SEQ_REQUEST, 45_mixer_control.md R152): nothing is saved and no mode changes. TICK_COUNTER
restarts, and the core stalls between phase A and phase B with SEQ_PENDING and MID_STEP set. -/
def State.takeCallback (s : State) : State :=
  { s with tickCounter := 0, seqPending := true, midStep := true }

/-- The return (R176; the SEQ_ACK write, 46_host_interface.md R165): it restores nothing. -/
def State.returnFromCallback (s : State) : State :=
  if s.seqPending then { s with seqPending := false } else s

/-- R172: the line SEQ_IRQ, a level. -/
def State.seqIrq (s : State) : Bool := s.seqPending

/-! ### Ports -/

/-- 30_encoding.md R82: one response word goes back to the host. -/
def State.respond (v : Word) (s : State) : State := { s with resp := s.resp ++ [v] }

/-- 45_mixer_control.md R155: `emit(l, r)` appends a stereo pair to `core.out`. -/
def State.emit (l r : Sample) (s : State) : State := { s with out := s.out ++ [(l, r)] }

/-- 20_memory.md R64: a sample as two bytes, little-endian: the low byte first. -/
def bytesOfSample (y : Sample) : List Byte := [y.extractLsb' 0 8, y.extractLsb' 8 8]

/-- R64: the output stream serialized to bytes: of each pair the left sample first, then the right, each low byte first. -/
def State.outBytes (s : State) : List Byte := s.out.flatMap (fun lr => bytesOfSample lr.1 ++ bytesOfSample lr.2)

/-- What an internal operation run on its own hands back. -/
def State.returning (vs : List Sample) (s : State) : State := { s with ret := vs }

end Sys2Proof.Machine
end

