-- ==== Sys2Proof/Machine/Flags.lean ====
section
/-! DEFINITION. The single-bit state as register words (10_state.md R53): the core has no condition codes, and no arithmetic sets a flag; CTRL and STATUS are composed here. -/

namespace Sys2Proof.Machine

/-- R23: CTRL as read: RUN in bit 0, the rest 0. -/
def State.ctrlWord (s : State) : Word := BitVec.ofNat 32 s.run.toNat

/-- R24: STATUS as read: STARTED, SEQ_PENDING, MID_STEP in bits 0 to 2, the rest 0. -/
def State.statusWord (s : State) : Word :=
  BitVec.ofNat 32 (s.started.toNat + 2 * s.seqPending.toNat + 4 * s.midStep.toNat)

/-- R23, 46_host_interface.md R164: what a write of RUN does to the flags; STARTED is sticky. -/
def State.writeRun (b : Bool) (s : State) : State := { s with run := b, started := s.started || b }

end Sys2Proof.Machine
end

