-- ==== Sys2Proof/Machine/Operands.lean ====
section
/-! DEFINITION. Reading and writing the registers of the register space (10_state.md R20, R30; 30_encoding.md R87; 46_host_interface.md R161, R162), each register in its own case, with the one home of each. -/

namespace Sys2Proof.Machine

/-- R21: the value ID always reads. -/
def idValue : Word := 0x4E434F07

/-- R22: CONFIG reads NUM_PAIRS in [7:0] and HIST_LOG2 in [15:8]. -/
def State.configWord (s : State) : Word := BitVec.ofNat 32 (s.numPairs % 256 + 256 * (s.histLog2 % 256))

/-- R20, R161: the value a READ of a global register returns. -/
def State.readGlob (s : State) : GlobReg → Word
  | .id => idValue
  | .config => s.configWord
  | .ctrl => s.ctrlWord
  | .status => s.statusWord
  | .seqAck => 0
  | .sampleRate => s.sampleRate
  | .bpm => s.bpm
  | .tickRate => s.tickRate
  | .tickSpeed => s.tickSpeed
  | .tickCounter => s.tickCounter
  | .countLo => s.count.extractLsb' 0 32
  | .countHi => s.count.extractLsb' 32 32
  | .nextTickLo => s.nextTick.extractLsb' 0 32
  | .nextTickHi => s.nextTick.extractLsb' 32 32
  | .outL => s.outL.signExtend 32
  | .outR => s.outR.signExtend 32

/-- R30, R161: the value a READ of a channel register returns: narrow fields zero-extended, AVG sign-extended. -/
def Channel.readReg (ch : Channel) : ChReg → Word
  | .waveSel => ch.waveSel
  | .mode => ch.mode.zeroExtend 32
  | .note => ch.note
  | .slide => ch.slide
  | .preVol => ch.preVol
  | .postVol => ch.postVol
  | .fade => ch.fade
  | .length => ch.length
  | .phase => ch.phase
  | .period => ch.period
  | .delayReq => ch.delayReq
  | .delay => ch.delay
  | .filterW => ch.filterW
  | .avg => ch.avg.signExtend 32
  | .cursor => ch.cursor
  | .dry => ch.dry
  | .wet => ch.wet
  | .feedback => ch.feedback
  | .attack => ch.attack
  | .decay => ch.decay
  | .peak => ch.peak
  | .sustain => ch.sustain
  | .release => ch.release
  | .envPos => ch.envPos
  | .noteOn => BitVec.ofNat 32 ch.noteOn.toNat
  | .tremDepth => ch.tremDepth
  | .tremSel => ch.tremSel
  | .tremRate => ch.tremRate
  | .tremPhase => ch.tremPhase.zeroExtend 32
  | .tremLevel => ch.tremLevel
  | .vibDepth => ch.vibDepth
  | .vibSel => ch.vibSel
  | .vibRate => ch.vibRate
  | .vibPhase => ch.vibPhase.zeroExtend 32
  | .vibLevel => ch.vibLevel

/-- R87, R162: a host write to a channel register, with the bits it stores. A write to a read-only register is
ignored (10_state.md, access code RO). -/
def Channel.writeReg (ch : Channel) (d : Word) : ChReg → Channel
  | .waveSel => { ch with waveSel := d }
  | .mode => { ch with mode := d.extractLsb' 0 2 }
  | .note => { ch with note := d }
  | .slide => { ch with slide := d }
  | .preVol => { ch with preVol := d }
  | .postVol => { ch with postVol := d }
  | .fade => { ch with fade := d }
  | .length => { ch with length := d }
  | .phase => ch
  | .period => ch
  | .delayReq => { ch with delayReq := d }
  | .delay => ch
  | .filterW => { ch with filterW := d }
  | .avg => ch
  | .cursor => ch
  | .dry => { ch with dry := d }
  | .wet => { ch with wet := d }
  | .feedback => { ch with feedback := d }
  | .attack => { ch with attack := d }
  | .decay => { ch with decay := d }
  | .peak => { ch with peak := d }
  | .sustain => { ch with sustain := d }
  | .release => { ch with release := d }
  | .envPos => { ch with envPos := d }
  | .noteOn => { ch with noteOn := d.getLsbD 0 }
  | .tremDepth => { ch with tremDepth := d }
  | .tremSel => { ch with tremSel := d }
  | .tremRate => { ch with tremRate := d }
  | .tremPhase => { ch with tremPhase := d.extractLsb' 0 16 }
  | .tremLevel => ch
  | .vibDepth => { ch with vibDepth := d }
  | .vibSel => { ch with vibSel := d }
  | .vibRate => { ch with vibRate := d }
  | .vibPhase => { ch with vibPhase := d.extractLsb' 0 16 }
  | .vibLevel => ch

/-- 46_host_interface.md R161: the word a READ of an aligned address returns. -/
def State.readAddr (s : State) (b : Addr) : Word :=
  match decodeAddr s.numPairs b with
  | .glob r => s.readGlob r
  | .chan c off =>
    match s.chan? c, ChReg.ofOffset off with
    | some ch, some r => ch.readReg r
    | _, _ => 0
  | .pair _ _ => 0
  | .reserved => 0

/-- 46_host_interface.md R162: a host write to register `r` of channel `c`. A channel that the machine does not
have is a reserved address, and the write is ignored (20_memory.md R61). -/
def State.writeChanReg (s : State) (c : Nat) (r : ChReg) (d : Word) : State :=
  match s.chan? c with
  | some ch => s.setChan c (ch.writeReg d r)
  | none => s

/-- 46_host_interface.md R162: WRITE.REG's store. -/
def State.writeTarget (s : State) (t : RegTarget) (d : Word) : State :=
  match t with
  | .bpm => { s with bpm := d }
  | .tickRate => { s with tickRate := d }
  | .tickSpeed => { s with tickSpeed := d }
  | .chan c r => s.writeChanReg c r d

end Sys2Proof.Machine
end

