-- ==== Sys2Proof/Machine/DelayFilter.lean ====
section
/-! DEFINITION. The delay-filter unit (43_delay_filter.md R130 to R134): the effective width and delay, DF_STEP on one channel, and its meaning. -/

namespace Sys2Proof.Machine

/-- R131, 10_state.md R45: an index of a history buffer of `n` entries, modulo `n`. -/
def histIndex (n : Nat) (i : Int) : Nat := (i % (n : Int)).toNat

/-- R130: the effective width, `clamp(FILTER_W, 1, MAX_WIDTH)`. -/
def Channel.effWidth (n : Nat) (ch : Channel) : Int := clamp (u32 ch.filterW) 1 ((n / 2 : Nat) : Int)

/-- R130: the effective delay, `min(DELAY, MAX_DELAY)`. -/
def Channel.effDelay (n : Nat) (ch : Channel) : Int := min (u32 ch.delay) ((n / 2 : Nat) : Int)

/-- R131: the value DF_STEP stores, with the feedback from the previous average. -/
def Channel.dfStore (x : Sample) (ch : Channel) : Sample :=
  toSample (sat16 (x.toInt + asr (ch.avg.toInt * ch.feedback.toInt) 16))

/-- R131: the history after the store at the cursor. -/
def Channel.dfHist (n : Nat) (x : Sample) (ch : Channel) : Memory :=
  Memory.write ch.hist (histIndex n (u32 ch.cursor)) (ch.dfStore x)

/-- R131: the entry leaving the window, read before the write. -/
def Channel.dfLeaving (n : Nat) (ch : Channel) : Sample :=
  Memory.read ch.hist (histIndex n (u32 ch.cursor - ch.effDelay n - ch.effWidth n))

/-- R131: the entry entering the window, read after the write. -/
def Channel.dfEntering (n : Nat) (x : Sample) (ch : Channel) : Sample :=
  Memory.read (ch.dfHist n x) (histIndex n (u32 ch.cursor - ch.effDelay n))

/-- R131: the running average after the step. -/
def Channel.dfAvg (n : Nat) (x : Sample) (ch : Channel) : Sample :=
  toSample (sat16 (ch.avg.toInt + tdiv (ch.dfEntering n x).toInt (ch.effWidth n)
    - tdiv (ch.dfLeaving n).toInt (ch.effWidth n)))

/-- R131: the output, dry and wet mixed. -/
def dfOutput (x avg : Sample) (dry wet : Word) : Sample :=
  toSample (sat16 (asr (x.toInt * dry.toInt) 16 + asr (avg.toInt * wet.toInt) 16))

/-- R131: DF_STEP on a channel with a history of `n` entries. -/
def Channel.dfStep (n : Nat) (x : Sample) (ch : Channel) : Channel × Sample :=
  ({ ch with
      hist := ch.dfHist n x
      avg := ch.dfAvg n x
      cursor := toWord ((u32 ch.cursor + 1) % (n : Int)) },
    dfOutput x (ch.dfAvg n x) ch.dry ch.wet)

/-- DF_STEP (R131): the output `y` is returned. -/
def execDfStep (c : Nat) (x : Sample) (s : State) : Host.Outcome State Fault Refusal :=
  match s.chan? c with
  | some ch => .next ((s.setChan c (ch.dfStep s.histLen x).1).returning [(ch.dfStep s.histLen x).2])
  | none => .fault (.absentChannel c)

end Sys2Proof.Machine
end

