-- ==== Sys2Proof/Machine/PairWorker.lean ====
section
/-! DEFINITION. The pair synthesis worker (44_pair_worker.md R140 to R147): the phase accumulator, the voice scale, the pair step and its router, and the meanings of NCO.ADVANCE, VOICE.SCALE, PAIR_STEP and PAIR.*. -/

namespace Sys2Proof.Machine

/-- R140: NCO.ADVANCE; the sum is taken before the modulo and never wraps. -/
def Channel.ncoAdvance (ch : Channel) : Channel :=
  if ch.length.toNat = 0 then { ch with phase := 0 }
  else { ch with phase := BitVec.ofNat 32 ((ch.phase.toNat + ch.period.toNat) % ch.length.toNat) }

/-- R141: VOICE.SCALE, `sat16(asr(s * (PRE_VOL + TREM_LEVEL), 16))`. -/
def Channel.voiceScale (s : Sample) (ch : Channel) : Sample :=
  toSample (sat16 (asr (s.toInt * (ch.preVol.toInt + ch.tremLevel.toInt)) 16))

/-- R142: `wrapL`, tested before advancing; `>=` (90_conflicts.md C8). -/
def Channel.wraps (ch : Channel) : Bool := decide (ch.length.toNat ≤ ch.phase.toNat + ch.period.toNat)

/-- R144: `phR = yL + 0x8000`. -/
def pmPhase (yL : Sample) : Word := toWord (yL.toInt + 32768)

/-- R143 to R146: ROUTE. -/
def route (m : PairMode) (yL yR : Sample) : Sample × Sample :=
  match m with
  | .stereo => (yL, yR)
  | .pm => (yR, yR)
  | .am =>
    let a := toSample (sat16 (asr (yL.toInt * yR.toInt) 15))
    (a, a)
  | .sync => (yR, yR)

/-- R146: the right channel after both phases advanced: its phase is 0 if the left one wrapped, in Sync only. -/
def syncRight (m : PairMode) (wrapL : Bool) (r : Channel) : Channel :=
  if m = .sync ∧ wrapL = true then { r with phase := 0 } else r

/-- R144: the phase of the right channel's lookup. -/
def rightPhase (m : PairMode) (yL : Sample) (r : Channel) : Word := if m = .pm then pmPhase yL else r.phase

/-- R142: PAIR_STEP in the variant `m`, on a pair with histories of `n` entries: the pair after it, and `(oL, oR)`. -/
def Pair.stepAs (wave : WaveFn) (n : Nat) (m : PairMode) (pr : Pair) : Pair × (Sample × Sample) :=
  let l := pr.left.ncoAdvance
  let r := syncRight m pr.left.wraps pr.right.ncoAdvance
  let dl := l.dfStep n (l.voiceScale (wave l.waveSel l.phase))
  let dr := r.dfStep n (r.voiceScale (wave r.waveSel (rightPhase m dl.2 r)))
  (⟨dl.1, dr.1⟩, route m dl.2 dr.2)

/-- R142, R93: PAIR_STEP. The left channel's MODE selects the variant; the right channel's has no effect. -/
def Pair.step (wave : WaveFn) (n : Nat) (pr : Pair) : Pair × (Sample × Sample) :=
  pr.stepAs wave n (decodeMode pr.left.mode)

/-- A pair step of pair `p`, as the meaning of an instruction: the pair's outputs are returned. -/
def onPair (p : Nat) (f : Pair → Pair × (Sample × Sample)) (s : State) : Host.Outcome State Fault Refusal :=
  match s.pairs[p]? with
  | some pr => .next ((s.setPair p (f pr).1).returning [(f pr).2.1, (f pr).2.2])
  | none => .fault (.absentPair p)

/-! ### The meanings -/

/-- NCO.ADVANCE (R140). -/
def execNcoAdvance (c : Nat) (s : State) : Host.Outcome State Fault Refusal := onChan c Channel.ncoAdvance s

/-- VOICE.SCALE (R141): the scaled sample is returned; no register changes. -/
def execVoiceScale (c : Nat) (x : Sample) (s : State) : Host.Outcome State Fault Refusal :=
  match s.chan? c with
  | some ch => .next (s.returning [ch.voiceScale x])
  | none => .fault (.absentChannel c)

/-- PAIR.STEREO (R143): the pair step in that variant. -/
def execPairStereo (p : Nat) (s : State) : Host.Outcome State Fault Refusal :=
  onPair p (Pair.stepAs Config.waveFn s.histLen .stereo) s

/-- PAIR.PM (R144). -/
def execPairPm (p : Nat) (s : State) : Host.Outcome State Fault Refusal :=
  onPair p (Pair.stepAs Config.waveFn s.histLen .pm) s

/-- PAIR.AM (R145). -/
def execPairAm (p : Nat) (s : State) : Host.Outcome State Fault Refusal :=
  onPair p (Pair.stepAs Config.waveFn s.histLen .am) s

/-- PAIR.SYNC (R146). -/
def execPairSync (p : Nat) (s : State) : Host.Outcome State Fault Refusal :=
  onPair p (Pair.stepAs Config.waveFn s.histLen .sync) s

/-- PAIR_STEP (R142): the variant is the left channel's MODE's. -/
def execPairStep (p : Nat) (s : State) : Host.Outcome State Fault Refusal :=
  onPair p (Pair.step Config.waveFn s.histLen) s

end Sys2Proof.Machine
end

