-- ==== Sys2Proof/Machine/Envelope.lean ====
section
/-! DEFINITION. The envelope state machine and the LFO engine (42_envelope_lfo.md R120 to R129): TICK steps 3 and 4 of one channel, and the meanings of ENV.* and LFO.*. -/

namespace Sys2Proof.Machine

/-- R121: ENV.IDLE leaves the volume untouched. -/
def Channel.envIdle (ch : Channel) : Channel := ch

/-- R122: ENV.RELEASE, `PRE_VOL <- max(PRE_VOL - RELEASE, 0)`. With `RELEASE >= 1`, the variant's condition, the result is in range.
DESIGN CHOICE (log entry 21), safe: run alone with `RELEASE < 1` the difference can pass 2^31 - 1, where the spec states no
result; PRE_VOL then takes a free value. -/
def Channel.envRelease (ch : Channel) : Channel :=
  { ch with
    preVol := s32Or (Config.releaseOutOfRange ch.preVol ch.release)
      (max (ch.preVol.toInt - ch.release.toInt) 0) }

/-- R123: ENV.ATTACK, `PRE_VOL <- min(PRE_VOL + ATTACK, 0x10000)`. With `ATTACK >= 1`, part of the variant's condition, the result
is in range. DESIGN CHOICE (log entry 21), safe: run alone with `ATTACK < 1` the sum can pass -2^31, where the spec states no
result; PRE_VOL then takes a free value. -/
def Channel.envAttack (ch : Channel) : Channel :=
  { ch with
    preVol := s32Or (Config.attackOutOfRange ch.preVol ch.attack)
      (min (ch.preVol.toInt + ch.attack.toInt) unity) }

/-- R124: ENV.DECAY, `PRE_VOL <- min(max(PRE_VOL - DECAY, 0), 2^31 - 1)`. -/
def Channel.envDecay (ch : Channel) : Channel :=
  { ch with preVol := toWord (min (max (ch.preVol.toInt - ch.decay.toInt) 0) s32Max) }

/-- R125: ENV.SUSTAIN leaves the volume unchanged. -/
def Channel.envSustain (ch : Channel) : Channel := ch

/-- 30_encoding.md R92, R120: the condition of Attack, compared as integers. -/
def Channel.attackDue (ch : Channel) : Bool :=
  decide (1 ≤ ch.attack.toInt) && decide (u32 ch.envPos < tdiv ch.peak.toInt ch.attack.toInt)

/-- 30_encoding.md R92: the envelope variant of channel `c`'s tick, the first condition that holds. -/
def selectEnv (ch : Channel) (c : Nat) : Instr :=
  if ch.release.toInt < 1 then .envIdle c
  else if ch.noteOn = false then .envRelease c
  else if ch.attackDue then .envAttack c
  else if ch.sustain.toInt < ch.preVol.toInt then .envDecay c
  else .envSustain c

/-- R126: `ENV_POS <- wrapU_32(ENV_POS + 1)`. -/
def Channel.envAdvance (ch : Channel) : Channel := { ch with envPos := toWord (u32 ch.envPos + 1) }

/-- R120: ENV, the dispatch. Every condition reads the values from before the step; ENV_POS advances after the
variant, whichever it is. -/
def Channel.env (ch : Channel) : Channel :=
  if ch.release.toInt < 1 then ch.envIdle.envAdvance
  else if ch.noteOn = false then ch.envRelease.envAdvance
  else if ch.attackDue then ch.envAttack.envAdvance
  else if ch.sustain.toInt < ch.preVol.toInt then ch.envDecay.envAdvance
  else ch.envSustain.envAdvance

/-- R128, R129: `(phase + rate) mod 0x10000`. -/
def lfoAdvance (phase : BitVec 16) (rate : Word) : BitVec 16 := BitVec.ofNat 16 ((phase.toNat + rate.toNat) % 65536)

/-- R128, R129: `sat32(asr(w * depth, 15))` for the wave sample `w`. -/
def lfoLevel (w : Sample) (depth : Word) : Word := toWord (sat32 (asr (w.toInt * depth.toInt) 15))

/-- R128: LFO.TREM. The phase is advanced first, and the level is sampled at the new phase. -/
def Channel.lfoTrem (wave : WaveFn) (ch : Channel) : Channel :=
  let ph := lfoAdvance ch.tremPhase ch.tremRate
  { ch with tremPhase := ph, tremLevel := lfoLevel (wave ch.tremSel (ph.zeroExtend 32)) ch.tremDepth }

/-- R129: LFO.VIB. -/
def Channel.lfoVib (wave : WaveFn) (ch : Channel) : Channel :=
  let ph := lfoAdvance ch.vibPhase ch.vibRate
  { ch with vibPhase := ph, vibLevel := lfoLevel (wave ch.vibSel (ph.zeroExtend 32)) ch.vibDepth }

/-! ### The meanings -/

/-- ENV.IDLE (R121). -/
def execEnvIdle (c : Nat) (s : State) : Host.Outcome State Fault Refusal := onChan c Channel.envIdle s

/-- ENV.RELEASE (R122). -/
def execEnvRelease (c : Nat) (s : State) : Host.Outcome State Fault Refusal := onChan c Channel.envRelease s

/-- ENV.ATTACK (R123). -/
def execEnvAttack (c : Nat) (s : State) : Host.Outcome State Fault Refusal := onChan c Channel.envAttack s

/-- ENV.DECAY (R124). -/
def execEnvDecay (c : Nat) (s : State) : Host.Outcome State Fault Refusal := onChan c Channel.envDecay s

/-- ENV.SUSTAIN (R125). -/
def execEnvSustain (c : Nat) (s : State) : Host.Outcome State Fault Refusal := onChan c Channel.envSustain s

/-- LFO.TREM (R128). -/
def execLfoTrem (c : Nat) (s : State) : Host.Outcome State Fault Refusal := onChan c (Channel.lfoTrem Config.waveFn) s

/-- LFO.VIB (R129). -/
def execLfoVib (c : Nat) (s : State) : Host.Outcome State Fault Refusal := onChan c (Channel.lfoVib Config.waveFn) s

end Sys2Proof.Machine
end

