-- ==== Sys2Proof/Machine/Pitch.lean ====
section
/-! DEFINITION. Note and pitch conversion (40_note_pitch.md R100 to R104): the effective note and the exact period function of R102, which 00_scope.md R9 permits a model to use directly. `periodExact` is the clear definition; `periodFn` answers the same number by interval arithmetic first. -/

namespace Sys2Proof.Machine

/-- R100: the effective note, `wrapS_32(NOTE + VIB_LEVEL)`. -/
def noteEff (note vibLevel : Word) : Word := toWord (note.toInt + vibLevel.toInt)

/-- R101: `freq(n) = 440 * 2^(pitchExp n / pitchDen)`: the exponent's denominator, 12 * 65536. -/
def pitchDen : Nat := 786432

/-- R101: the exponent's numerator, `n - 69 * 65536`. -/
def pitchExp (n : Word) : Int := n.toInt - 4521984

/-- The largest period, 2^32 - 1 (R102). -/
def periodMax : Nat := 4294967295

/-- R102, exactly: is `k <= freq(n) * len / rate`? Both sides of `k * rate <= 440 * len * 2^(e/D)` raised to the
power `D`, with the power of two on the side where its exponent is not negative. -/
def periodAtLeast (n len rate : Word) (k : Nat) : Bool :=
  decide ((k * rate.toNat) ^ pitchDen * 2 ^ (-pitchExp n).toNat
    ≤ (440 * len.toNat) ^ pitchDen * 2 ^ (pitchExp n).toNat)

/-- The greatest number below `acc + 2^bits` that passes a test which, once false, stays false. -/
def greatest (p : Nat → Bool) : Nat → Nat → Nat
  | 0, acc => acc
  | b + 1, acc => greatest p b (if p (acc + 2 ^ b) then acc + 2 ^ b else acc)

/-- R102, the reference: 0 at rate 0, else `min(floor(freq(n) * len / rate), 2^32 - 1)`, the floor of the exact
real value, found bit by bit. -/
def periodExact (n len rate : Word) : Nat :=
  if rate.toNat = 0 then 0 else greatest (periodAtLeast n len rate) 32 0

/-- The precision of the quick bounds, in bits. -/
def rootBits : Nat := 256

/-- `2^(2^i / pitchDen)` for i = 0 to 19, in units of `2^-rootBits`, each at most the real value and short of it by
less than 2 units. -/
def rootTable : List Nat :=
  [0x100000ec9826ca5e8b89ff78d3b19308128d3e2dd55a0e60cddeef2f84813e6eb,
    0x100001d9305b3f4b36474715aa3dc9f318be699821b31c3ebd2035096dad6fd6f,
    0x100003b260ed28d211b25138c25d37212ecbb7eff211706ee7e6d06b989eb0e74,
    0x10000764c2b4faabfaab5040ae8c15e56cadb0767137a25890080fdbc3717f806,
    0x10000ec988d49a4168573f769443e7b06c9ba21273bfed34ab0c872acdfcdfdda,
    0x10001d931f53ce794e6de838e9f639086aa2fb6983731d108f13a50cd78c03ddb,
    0x10003b26755237524a9bf8d00434ab6023f65c14a1595dff6aca2a22dd14f7da4,
    0x1000764dc5506c539001ae4c06328f9face24f54dbe934fc0343bb0f5dce895b9,
    0x1000ec9ef55d710e05348cc2c2a757c5aa4a29dc8d7ae532fdec36cf2b43ce7a1,
    0x1001d94b9612539d39bf4ffd4cd813d89e23836bde2ac3246bb2101004a480d20,
    0x1003b2cddcab154a6e962d092618b8298efac79a316d1230bfd65d232c2a8c6b6,
    0x1007667694b7b14df6377118765fb0b8c37c21be428530ac18061687fc496a369,
    0x100ed059615cda54210e20f84513472d1f8b205622331510605be2b59c7afbe73,
    0x101dae69f839ede1fb56501fce82ef6646d07897665c60572a2647e6946ae2f79,
    0x103b93e39ddb42874325a9d456378ef4dfb451c3d9c8222aebdfbbc7332659f3c,
    0x1078059f4155d0cb553a6f9f58ed3e5877d65c22e045337f9aa64beb2a7df69ad,
    0x10f38f92d97962cbcb533704a0d391b847764f16fb332c71efc5ea7464dbf9543,
    0x11f59ac3c7d6bfd6be1c781f2bfa2a923812055f8ac4bed072802f9aba6b0deb1,
    0x1428a2f98d728ae223ddab715be250d0c288f10291631fbc061800cc36fa2dd3a,
    0x1965fea53d6e3c82b05999ab43dc4def1980762158a0a815f2291ac0cf93041e5]

/-- A lower bound of `acc * 2^(r / pitchDen)`: the product of the roots that the bits of `r` select, rounded down. -/
def expLo : List Nat → Nat → Nat → Nat
  | [], _, acc => acc
  | t :: ts, r, acc => expLo ts (r / 2) (if r % 2 = 1 then acc * t / 2 ^ rootBits else acc)

/-- An upper bound of `acc * 2^(r / pitchDen)`, rounded up. -/
def expHi : List Nat → Nat → Nat → Nat
  | [], _, acc => acc
  | t :: ts, r, acc => expHi ts (r / 2) (if r % 2 = 1 then acc * (t + 2) / 2 ^ rootBits + 1 else acc)

/-- `min(floor(440 * len * 2^q * (m / 2^rootBits) / rate), 2^32 - 1)` for a whole `q`. -/
def periodScaled (len rate : Word) (q : Int) (m : Nat) : Nat :=
  min (440 * len.toNat * 2 ^ q.toNat * m / (rate.toNat * 2 ^ (-q).toNat * 2 ^ rootBits)) periodMax

/-- The period from the lower and from the upper bound of the power of two; none if they differ. -/
def periodQuick (n len rate : Word) : Option Nat :=
  let q := pitchExp n / (pitchDen : Int)
  let r := (pitchExp n % (pitchDen : Int)).toNat
  let lo := periodScaled len rate q (expLo rootTable r (2 ^ rootBits))
  let hi := periodScaled len rate q (expHi rootTable r (2 ^ rootBits))
  if lo = hi then some lo else none

/-- R9, R102: the period function. -/
def periodFn (n len rate : Word) : Word :=
  if rate.toNat = 0 then 0
  else
    match periodQuick n len rate with
    | some k => BitVec.ofNat 32 k
    | none => BitVec.ofNat 32 (periodExact n len rate)

end Sys2Proof.Machine
end

