-- ==== Sys2Proof/Machine/Tick.lean ====
section
/-! DEFINITION. The tick scheduler (41_tick_scheduler.md R110 to R119): the tick interval, the seven steps of a channel's tick, TICK, and the meanings of TICK, CH_TICK.* and DREQ.*. -/

namespace Sys2Proof.Machine

/-- R111: tickInterval, 1 at a zero divisor or a zero quotient. -/
def tickInterval (sampleRate bpm tickRate : Word) : Int :=
  if bpm.toNat = 0 ∨ tickRate.toNat = 0 then 1
  else max 1 (tdiv (tdiv (60 * u32 sampleRate) (u32 bpm)) (u32 tickRate))

/-- R111 at the registers' current values. -/
def State.tickInterval (s : State) : Int := Sys2Proof.Machine.tickInterval s.sampleRate s.bpm s.tickRate

/-- R113: CH_TICK.SLIDE, step 1. -/
def Channel.slideNote (ch : Channel) : Channel := { ch with note := toWord (ch.note.toInt + ch.slide.toInt) }

/-- R114: CH_TICK.FADE, step 2. -/
def Channel.fadeVol (ch : Channel) : Channel :=
  { ch with postVol := toWord (min (max (ch.postVol.toInt + ch.fade.toInt) 0) s32Max) }

/-- R115: DREQ.NONE, tag 0: the request is discarded. -/
def Channel.dreqNone (ch : Channel) : Channel := { ch with delayReq := 0 }

/-- R115: DREQ.RSVD, tag 3: discarded the same way. -/
def Channel.dreqRsvd (ch : Channel) : Channel := { ch with delayReq := 0 }

/-- R116, R117: a delay of that many samples, clamped to MAX_DELAY, resolves the request. -/
def Channel.resolveDelay (maxDelay : Nat) (samples : Int) (ch : Channel) : Channel :=
  { ch with delay := toWord (min samples maxDelay), delayReq := 0 }

/-- R116: DREQ.TICKS, tag 1. -/
def Channel.dreqTicks (maxDelay : Nat) (interval : Int) (ch : Channel) : Channel :=
  ch.resolveDelay maxDelay (dreqCount ch.delayReq * interval)

/-- R117: DREQ.NOTE, tag 2: one note unit is one beat, TICK_RATE ticks. -/
def Channel.dreqNote (maxDelay : Nat) (tickRate : Word) (interval : Int) (ch : Channel) : Channel :=
  ch.resolveDelay maxDelay (dreqCount ch.delayReq * u32 tickRate * interval)

/-- 30_encoding.md R94: DREQ, step 5, by the tag of DELAY_REQ. -/
def Channel.dreq (maxDelay : Nat) (tickRate : Word) (interval : Int) (ch : Channel) : Channel :=
  if dreqTag ch.delayReq = 0 then ch.dreqNone
  else if dreqTag ch.delayReq = 1 then ch.dreqTicks maxDelay interval
  else if dreqTag ch.delayReq = 2 then ch.dreqNote maxDelay tickRate interval
  else ch.dreqRsvd

/-- R118: CH_TICK.WIDTH, step 6. -/
def Channel.clampWidth (maxWidth : Nat) (ch : Channel) : Channel :=
  { ch with filterW := toWord (clamp (u32 ch.filterW) 1 maxWidth) }

/-- R119: CH_TICK.PERIOD, step 7. -/
def Channel.setPeriod (sampleRate : Word) (ch : Channel) : Channel :=
  { ch with period := periodFn (noteEff ch.note ch.vibLevel) ch.length sampleRate }

/-- R110: the seven steps of one channel, each reading what the steps before it left; `g` gives the globals. -/
def Channel.tick (wave : WaveFn) (g : State) (ch : Channel) : Channel :=
  let ch := ch.slideNote
  let ch := ch.fadeVol
  let ch := ch.env
  let ch := (ch.lfoTrem wave).lfoVib wave
  let ch := ch.dreq g.maxDelay g.tickRate g.tickInterval
  let ch := ch.clampWidth g.maxWidth
  ch.setPeriod g.sampleRate

/-- R110: TICK. No channel's steps read another channel (R112), so the channels' order cannot be seen; COUNT is read
before phase B advances it. -/
def State.tick (wave : WaveFn) (s : State) : State :=
  { s with
    pairs := s.pairs.map (Pair.map (Channel.tick wave s))
    nextTick := toCount (s.count.toNat + s.tickInterval)
    tickCounter := toWord (u32 s.tickCounter + 1) }

/-! ### The meanings -/

/-- TICK (R110). -/
def execTick (s : State) : Host.Outcome State Fault Refusal := .next (s.tick Config.waveFn)

/-- CH_TICK.SLIDE (R113). -/
def execChTickSlide (c : Nat) (s : State) : Host.Outcome State Fault Refusal := onChan c Channel.slideNote s

/-- CH_TICK.FADE (R114). -/
def execChTickFade (c : Nat) (s : State) : Host.Outcome State Fault Refusal := onChan c Channel.fadeVol s

/-- DREQ.NONE (R115). -/
def execDreqNone (c : Nat) (s : State) : Host.Outcome State Fault Refusal := onChan c Channel.dreqNone s

/-- DREQ.RSVD (R115). -/
def execDreqRsvd (c : Nat) (s : State) : Host.Outcome State Fault Refusal := onChan c Channel.dreqRsvd s

/-- DREQ.TICKS (R116). -/
def execDreqTicks (c : Nat) (s : State) : Host.Outcome State Fault Refusal :=
  onChan c (Channel.dreqTicks s.maxDelay s.tickInterval) s

/-- DREQ.NOTE (R117). -/
def execDreqNote (c : Nat) (s : State) : Host.Outcome State Fault Refusal :=
  onChan c (Channel.dreqNote s.maxDelay s.tickRate s.tickInterval) s

/-- CH_TICK.WIDTH (R118). -/
def execChTickWidth (c : Nat) (s : State) : Host.Outcome State Fault Refusal :=
  onChan c (Channel.clampWidth s.maxWidth) s

/-- CH_TICK.PERIOD (R119). -/
def execChTickPeriod (c : Nat) (s : State) : Host.Outcome State Fault Refusal :=
  onChan c (Channel.setPeriod s.sampleRate) s

end Sys2Proof.Machine
end

