-- ==== Sys2Proof/Machine/Mixer.lean ====
section
/-! DEFINITION. The mixer control loop (45_mixer_control.md R150 to R155): MIX, emit, the two phases of OUTPUT_STEP, the callback request, and their meanings. -/

namespace Sys2Proof.Machine

/-- R154: one slot's sum: `asr(o[p] * POST_VOL, 16)` for each pair, each shifted on its own, summed without bound. -/
def mixSum : List (Sample × Word) → Int
  | [] => 0
  | (o, vol) :: rest => asr (o.toInt * vol.toInt) 16 + mixSum rest

/-- R154: the left slot takes the left channels' POST_VOL. -/
def mixLeft (pairs : List Pair) (outs : List (Sample × Sample)) : Sample :=
  toSample (sat16 (mixSum ((outs.map Prod.fst).zip (pairs.map (fun pr => pr.left.postVol)))))

/-- R154: the right slot takes the right channels' POST_VOL. -/
def mixRight (pairs : List Pair) (outs : List (Sample × Sample)) : Sample :=
  toSample (sat16 (mixSum ((outs.map Prod.snd).zip (pairs.map (fun pr => pr.right.postVol)))))

/-- R154: MIX: OUT_L and OUT_R take the saturated sums, and the pair is emitted. -/
def State.mix (outs : List (Sample × Sample)) (s : State) : State :=
  ({ s with outL := mixLeft s.pairs outs, outR := mixRight s.pairs outs }).emit
    (mixLeft s.pairs outs) (mixRight s.pairs outs)

/-- R153: OUTPUT_STEP phase B. No pair's step reads another pair (44_pair_worker.md R147), so each steps from the
state before; MIX takes the outputs in ascending order of pairs. -/
def State.phaseB (wave : WaveFn) (s : State) : State :=
  let steps := s.pairs.map (Pair.step wave s.histLen)
  let s := ({ s with pairs := steps.map Prod.fst }).mix (steps.map Prod.snd)
  { s with count := toCount (s.count.toNat + 1), midStep := false }

/-- R151: the tick, if one is due. -/
def State.tickIfDue (wave : WaveFn) (s : State) : State := if s.count = s.nextTick then s.tick wave else s

/-- R151: is the callback due? Tested after the tick. -/
def State.callbackDue (s : State) : Bool := decide (s.tickSpeed.toNat ≤ s.tickCounter.toNat)

/-- R151: OUTPUT_STEP phase A, which goes on into phase B unless the callback is requested. -/
def State.phaseA (wave : WaveFn) (s : State) : State :=
  if (s.tickIfDue wave).callbackDue then (s.tickIfDue wave).takeCallback else (s.tickIfDue wave).phaseB wave

/-- R150: the core's enabled operation, if it has one. -/
def State.enabledOp (s : State) : Option Instr :=
  if s.seqPending then none
  else if s.midStep then some .outputStepB
  else if s.run then some .outputStepA
  else none

/-! ### The meanings -/

/-- OUTPUT_STEP.A (R151). -/
def execOutputStepA (s : State) : Host.Outcome State Fault Refusal := .next (s.phaseA Config.waveFn)

/-- SEQ_REQUEST (R152). -/
def execSeqRequest (s : State) : Host.Outcome State Fault Refusal := .next s.takeCallback

/-- OUTPUT_STEP.B (R153). -/
def execOutputStepB (s : State) : Host.Outcome State Fault Refusal := .next (s.phaseB Config.waveFn)

/-- MIX (R154), on one output for each pair. -/
def execMix (outs : List (Sample × Sample)) (s : State) : Host.Outcome State Fault Refusal :=
  if outs.length = s.numPairs then .next (s.mix outs) else .fault (.pairOutputCount outs.length)

/-- emit (R155). -/
def execEmit (l r : Sample) (s : State) : Host.Outcome State Fault Refusal := .next (s.emit l r)

end Sys2Proof.Machine
end

