-- ==== Sys2Proof/Machine/Reset.lean ====
section
/-! DEFINITION. The meaning of RESET (70_reset_and_hazards.md R190, R191). -/

namespace Sys2Proof.Machine

/-- R190: every register, history entry and status bit takes its reset value, and the output stream is emptied.
The parameters are not state and stay; the events to come and what the host has already received are not the core's. -/
def State.resetCore (s : State) : State :=
  { State.resetWith s.numPairs s.histLog2 with agenda := s.agenda, resp := s.resp, ret := s.ret }

/-- RESET (R190). -/
def execReset (s : State) : Host.Outcome State Fault Refusal := .next s.resetCore

end Sys2Proof.Machine
end

