-- ==== Sys2Proof/Machine/Transactions.lean ====
section
/-! DEFINITION. The meanings of the host transactions (46_host_interface.md R160 to R167). None raises an error (60_exceptions.md R170). -/

namespace Sys2Proof.Machine

/-- VOID (R167, 30_encoding.md R83): no state changes; a void READ returns 0. -/
def execVoid (op : BitVec 2) (_rsv : BitVec 14) (_b : Addr) (_data : Option Word) (s : State) :
    Host.Outcome State Fault Refusal :=
  if op = 1 then .next (s.respond 0) else .next s

/-- NOP (R160): no effect. -/
def execNop (_b : Addr) (s : State) : Host.Outcome State Fault Refusal := .next s

/-- READ (R161): the register's value goes back to the host; no other effect (20_memory.md R68). -/
def execRead (b : Addr) (s : State) : Host.Outcome State Fault Refusal := .next (s.respond (s.readAddr b))

/-- WRITE.CTRL (R164): `RUN <- DATA[0]`; writing 1 sets STARTED. -/
def execWriteCtrl (data : Word) (s : State) : Host.Outcome State Fault Refusal := .next (s.writeRun (data.getLsbD 0))

/-- WRITE.SEQ_ACK (R165): the return from the callback; ignored when none is pending. DATA is ignored. -/
def execWriteSeqAck (_data : Word) (s : State) : Host.Outcome State Fault Refusal := .next s.returnFromCallback

/-- WRITE.SAMPLE_RATE (R166): stored while STARTED is 0, ignored after. -/
def execWriteSampleRate (data : Word) (s : State) : Host.Outcome State Fault Refusal :=
  .next (if s.started then s else { s with sampleRate := data })

/-- WRITE.PAIR (R163): the write to both channels of the pair, in one action. -/
def execWritePair (p : Nat) (r : ChReg) (data : Word) (s : State) : Host.Outcome State Fault Refusal :=
  .next ((s.writeChanReg (2 * p) r data).writeChanReg (2 * p + 1) r data)

/-- WRITE.REG (R162). -/
def execWriteReg (t : RegTarget) (data : Word) (s : State) : Host.Outcome State Fault Refusal :=
  .next (s.writeTarget t data)

/-- WRITE.IGNORED (R167): no state changes. -/
def execWriteIgnored (_b : Addr) (_data : Word) (s : State) : Host.Outcome State Fault Refusal := .next s

end Sys2Proof.Machine
end

