-- ==== Sys2Proof/Machine/Dispatch.lean ====
section
/-! DEFINITION. The dispatch: one arm per constructor of Instr, each one direct call of that instruction's meaning. -/

namespace Sys2Proof.Machine

def exec (i : Instr) (s : State) : Host.Outcome State Fault Refusal :=
  match i with
  | .void op rsv b data => Sys2Proof.Machine.execVoid op rsv b data s
  | .nop b => Sys2Proof.Machine.execNop b s
  | .read b => Sys2Proof.Machine.execRead b s
  | .writeCtrl data => Sys2Proof.Machine.execWriteCtrl data s
  | .writeSeqAck data => Sys2Proof.Machine.execWriteSeqAck data s
  | .writeSampleRate data => Sys2Proof.Machine.execWriteSampleRate data s
  | .writePair p r data => Sys2Proof.Machine.execWritePair p r data s
  | .writeReg t data => Sys2Proof.Machine.execWriteReg t data s
  | .writeIgnored b data => Sys2Proof.Machine.execWriteIgnored b data s
  | .reset => Sys2Proof.Machine.execReset s
  | .outputStepA => Sys2Proof.Machine.execOutputStepA s
  | .tick => Sys2Proof.Machine.execTick s
  | .chTickSlide c => Sys2Proof.Machine.execChTickSlide c s
  | .chTickFade c => Sys2Proof.Machine.execChTickFade c s
  | .envIdle c => Sys2Proof.Machine.execEnvIdle c s
  | .envRelease c => Sys2Proof.Machine.execEnvRelease c s
  | .envAttack c => Sys2Proof.Machine.execEnvAttack c s
  | .envDecay c => Sys2Proof.Machine.execEnvDecay c s
  | .envSustain c => Sys2Proof.Machine.execEnvSustain c s
  | .lfoTrem c => Sys2Proof.Machine.execLfoTrem c s
  | .lfoVib c => Sys2Proof.Machine.execLfoVib c s
  | .dreqNone c => Sys2Proof.Machine.execDreqNone c s
  | .dreqTicks c => Sys2Proof.Machine.execDreqTicks c s
  | .dreqNote c => Sys2Proof.Machine.execDreqNote c s
  | .dreqRsvd c => Sys2Proof.Machine.execDreqRsvd c s
  | .chTickWidth c => Sys2Proof.Machine.execChTickWidth c s
  | .chTickPeriod c => Sys2Proof.Machine.execChTickPeriod c s
  | .seqRequest => Sys2Proof.Machine.execSeqRequest s
  | .outputStepB => Sys2Proof.Machine.execOutputStepB s
  | .ncoAdvance c => Sys2Proof.Machine.execNcoAdvance c s
  | .voiceScale c x => Sys2Proof.Machine.execVoiceScale c x s
  | .dfStep c x => Sys2Proof.Machine.execDfStep c x s
  | .pairStereo p => Sys2Proof.Machine.execPairStereo p s
  | .pairPm p => Sys2Proof.Machine.execPairPm p s
  | .pairAm p => Sys2Proof.Machine.execPairAm p s
  | .pairSync p => Sys2Proof.Machine.execPairSync p s
  | .pairStep p => Sys2Proof.Machine.execPairStep p s
  | .mix outs => Sys2Proof.Machine.execMix outs s
  | .emit l r => Sys2Proof.Machine.execEmit l r s

end Sys2Proof.Machine
end

