-- ==== Sys2Proof/Machine/Fetch.lean ====
section
/-! DEFINITION. What the machine does next (20_memory.md R71, 45_mixer_control.md R150): the head of the agenda, decoded, or the core's enabled operation. The core has no program counter (10_state.md R29). -/

namespace Sys2Proof.Machine

/-- What a step is to do: run an instruction, hold its state, or refuse. -/
inductive Fetched where
  | run (i : Instr) (s : State)
  | hold (s : State)
  | reject (r : Refusal)
  deriving DecidableEq, Repr

/-- R150: a turn of the core. With no operation enabled the state is held (60_exceptions.md R184). -/
def coreTurn (s : State) : Fetched :=
  match s.enabledOp with
  | some i => .run i s
  | none => .hold s

/-- 30_encoding.md R80: one host transaction, the whole of the given words. -/
def hostTurn (words : List Word) (s : State) : Fetched :=
  match decode s.numPairs words with
  | .ok (i, []) => .run i s
  | .ok (_, w :: ws) => .reject (.trailingWords (w :: ws).length)
  | .error e => .reject (.badTransaction e)

/-- The next element of the total order. When no event is listed the host is silent, and the core takes its turns. -/
def fetch (s : State) : Fetched :=
  match s.agenda with
  | [] => coreTurn s
  | .coreTurn :: rest => coreTurn { s with agenda := rest }
  | .resetLine :: rest => .run .reset { s with agenda := rest }
  | .txn words :: rest => hostTurn words { s with agenda := rest }

/-- A table word made the next thing that happens. A transaction goes to the head of the agenda. A one-byte
word is pair 0's MODE (30_encoding.md R93): the field is set, and a phase B is next, in which PAIR_STEP takes
the selected variant on pair 0. -/
def State.placeTableWord (s : State) (nbits w : Nat) : State :=
  if nbits ≤ 8 then
    { s with
      pairs := s.pairs.modify 0 (fun pr => { pr with left := { pr.left with mode := BitVec.ofNat 2 w } })
      seqPending := false
      midStep := true
      agenda := .coreTurn :: s.agenda }
  else { s with agenda := .txn (tableTransaction w) :: s.agenda }

end Sys2Proof.Machine
end

