-- ==== Sys2Proof/Machine/Step.lean ====
section
/-! DEFINITION. One step of the machine: the next element of the total order (20_memory.md R71), and the host's way to place an instruction there. -/

namespace Sys2Proof.Machine

/-- One step: the instruction that `fetch` finds next is run; with nothing to do the state is held. -/
def step (s : State) : Host.Outcome State Fault Refusal :=
  match fetch s with
  | .run i s' => exec i s'
  | .hold s' => .next s'
  | .reject r => .refused r

/-- The state with a table word placed so that the very next step runs it. -/
def State.withFetchWord (s : State) (nbits w : Nat) : State := s.placeTableWord nbits w

end Sys2Proof.Machine
end

