-- ==== Sys2Proof/Safety.lean ====
section
/-! DEFINITION. What counts as a safe state: the invariants of 10_state.md R24, R28, R44, R54 that every step keeps, and the ordering of COUNT and NEXT_TICK. -/

namespace Sys2Proof.Machine

/-- A channel on a core with histories of `n` entries: the history is in canonical form and inside the buffer, CURSOR
is in [0, n - 1] (R44) and DELAY in [0, MAX_DELAY] (R42). -/
def Channel.safe (n : Nat) (ch : Channel) : Bool :=
  ch.hist.wf && ch.hist.within n && decide (ch.cursor.toNat < n) && decide (ch.delay.toNat ≤ n / 2)

/-- Both channels of a pair. -/
def Pair.safe (n : Nat) (pr : Pair) : Bool := pr.left.safe n && pr.right.safe n

/-- The status bits' order: SEQ_PENDING implies MID_STEP (R24); a core in the middle of a step, or running, has been
started (R23, R24). -/
def State.statusOk (s : State) : Bool :=
  (!s.seqPending || s.midStep) && (!s.midStep || s.started) && (!s.run || s.started)

/-- COUNT is the number of samples produced so far (R29), modulo 2^64. -/
def State.countOk (s : State) : Bool := s.count == BitVec.ofNat 64 s.out.length

/-- OUT_L and OUT_R hold the last pair emitted (R28), or their reset values. -/
def State.outOk (s : State) : Bool := s.out.getLast?.getD (0, 0) == (s.outL, s.outR)

/-- The parameters are in their ranges (00_scope.md R6, R7). -/
def State.paramsOk (s : State) : Bool := Config.numPairsOk s.numPairs && Config.histLog2Ok s.histLog2

/-- The safe states. -/
def State.safe (s : State) : Bool :=
  s.paramsOk && s.pairs.all (Pair.safe s.histLen) && s.statusOk && s.countOk && s.outOk

/-- R54(1): COUNT has not passed NEXT_TICK; in the middle of a step it is strictly before it, since the tick of that
step has been taken. -/
def State.onSchedule (s : State) : Bool :=
  decide (s.count.toNat ≤ s.nextTick.toNat) && (!s.midStep || decide (s.count.toNat < s.nextTick.toNat))

end Sys2Proof.Machine
end

