-- ==== Sys2Proof/WellFormed.lean ====
section
/-! DEFINITION. Which terms of `Instr` are instructions of a core with a given number of pairs: the operands every encoding or selection admits, and no others. -/

namespace Sys2Proof

/-- A channel that the machine has (10_state.md R30). -/
def chanOk (numPairs c : Nat) : Bool := decide (c < 2 * numPairs)

/-- A pair that the machine has (00_scope.md R6). -/
def pairOk (numPairs p : Nat) : Bool := decide (p < numPairs)

/-- 30_encoding.md R86 row 8: a target that WRITE.REG may have. -/
def RegTarget.ok (numPairs : Nat) : RegTarget → Bool
  | .bpm | .tickRate | .tickSpeed => true
  | .chan c r => chanOk numPairs c && r.writable

/-- The check. VOID meets R83 and carries DATA exactly when OP is 10 (R80); NOP and READ are aligned;
WRITE.PAIR and WRITE.REG name a register that R87 lets the host store to; WRITE.IGNORED is at an address of
R86 row 9; an internal operation names a channel or pair that the machine has; MIX has one output per pair. -/
def Instr.wf (numPairs : Nat) : Instr → Bool
  | .void op rsv b data => isVoid op rsv b && (data.isSome == (op == 2))
  | .nop b => aligned b
  | .read b => aligned b
  | .writeCtrl _ => true
  | .writeSeqAck _ => true
  | .writeSampleRate _ => true
  | .writePair p r _ => pairOk numPairs p && r.writable
  | .writeReg t _ => t.ok numPairs
  | .writeIgnored b data => aligned b && (decodeWrite numPairs b data == .writeIgnored b data)
  | .reset => true
  | .outputStepA => true
  | .tick => true
  | .chTickSlide c => chanOk numPairs c
  | .chTickFade c => chanOk numPairs c
  | .envIdle c => chanOk numPairs c
  | .envRelease c => chanOk numPairs c
  | .envAttack c => chanOk numPairs c
  | .envDecay c => chanOk numPairs c
  | .envSustain c => chanOk numPairs c
  | .lfoTrem c => chanOk numPairs c
  | .lfoVib c => chanOk numPairs c
  | .dreqNone c => chanOk numPairs c
  | .dreqTicks c => chanOk numPairs c
  | .dreqNote c => chanOk numPairs c
  | .dreqRsvd c => chanOk numPairs c
  | .chTickWidth c => chanOk numPairs c
  | .chTickPeriod c => chanOk numPairs c
  | .seqRequest => true
  | .outputStepB => true
  | .ncoAdvance c => chanOk numPairs c
  | .voiceScale c _ => chanOk numPairs c
  | .dfStep c _ => chanOk numPairs c
  | .pairStereo p => pairOk numPairs p
  | .pairPm p => pairOk numPairs p
  | .pairAm p => pairOk numPairs p
  | .pairSync p => pairOk numPairs p
  | .pairStep p => pairOk numPairs p
  | .mix outs => decide (outs.length = numPairs)
  | .emit _ _ => true

end Sys2Proof
end

