-- ==== Sys2Proof/Certificates/Slice0/Obligations.lean ====
section
/-! DEFINITION. The statements for the provers: what the numbered rules of spec/ say of each instruction, of the step, of the encodings and of the invariants. -/

namespace Sys2Proof.Statements

open Sys2Proof.Machine

/-- A READ of `b` returns `v` and has no other effect (46_host_interface.md R161). -/
def reads (s : State) (b : Addr) (v : Word) : Prop :=
  exec (.read b) s = .next { s with resp := s.resp ++ [v] }

/-- The channel registers as the host reads them: offset and value, in the order of 10_state.md R30. MODE, NOTE_ON and
the LFO phases are zero-extended, AVG is sign-extended (46_host_interface.md R161). -/
def readTable (ch : Channel) : List (Nat × Word) :=
  [(0x00, ch.waveSel), (0x04, ch.mode.zeroExtend 32), (0x08, ch.note), (0x0C, ch.slide), (0x10, ch.preVol),
    (0x14, ch.postVol), (0x18, ch.fade), (0x1C, ch.length), (0x20, ch.phase), (0x24, ch.period)] ++
  [(0x28, ch.delayReq), (0x2C, ch.delay), (0x30, ch.filterW), (0x34, ch.avg.signExtend 32), (0x38, ch.cursor),
    (0x3C, ch.dry), (0x40, ch.wet), (0x44, ch.feedback), (0x48, ch.attack), (0x4C, ch.decay)] ++
  [(0x50, ch.peak), (0x54, ch.sustain), (0x58, ch.release), (0x5C, ch.envPos),
    (0x60, if ch.noteOn then 1 else 0), (0x64, ch.tremDepth), (0x68, ch.tremSel), (0x6C, ch.tremRate),
    (0x70, ch.tremPhase.zeroExtend 32), (0x74, ch.tremLevel)] ++
  [(0x78, ch.vibDepth), (0x7C, ch.vibSel), (0x80, ch.vibRate), (0x84, ch.vibPhase.zeroExtend 32), (0x88, ch.vibLevel)]

/-- 30_encoding.md R87: the registers the host may store to, each with the channel after a write of `d`. -/
def storeTable (ch : Channel) (d : Word) : List (ChReg × Channel) :=
  [(.waveSel, { ch with waveSel := d }), (.mode, { ch with mode := d.extractLsb' 0 2 }), (.note, { ch with note := d }),
    (.slide, { ch with slide := d }), (.preVol, { ch with preVol := d }), (.postVol, { ch with postVol := d }),
    (.fade, { ch with fade := d }), (.length, { ch with length := d }), (.delayReq, { ch with delayReq := d }),
    (.filterW, { ch with filterW := d })] ++
  [(.dry, { ch with dry := d }), (.wet, { ch with wet := d }), (.feedback, { ch with feedback := d }),
    (.attack, { ch with attack := d }), (.decay, { ch with decay := d }), (.peak, { ch with peak := d }),
    (.sustain, { ch with sustain := d }), (.release, { ch with release := d }), (.envPos, { ch with envPos := d }),
    (.noteOn, { ch with noteOn := d.extractLsb' 0 1 == 1 })] ++
  [(.tremDepth, { ch with tremDepth := d }), (.tremSel, { ch with tremSel := d }), (.tremRate, { ch with tremRate := d }),
    (.tremPhase, { ch with tremPhase := d.extractLsb' 0 16 }), (.vibDepth, { ch with vibDepth := d }),
    (.vibSel, { ch with vibSel := d }), (.vibRate, { ch with vibRate := d }),
    (.vibPhase, { ch with vibPhase := d.extractLsb' 0 16 })]

/-- The bits of `d` that the register at a writable offset keeps (30_encoding.md R87). -/
def storedBits (r : ChReg) (d : Word) : Word :=
  match r with
  | .mode => d &&& 3
  | .noteOn => d &&& 1
  | .tremPhase | .vibPhase => d &&& 0xFFFF
  | _ => d

/-- The fields of 10_state.md R51's sample-rate class. -/
def sameSampleRate (a b : Channel) : Prop :=
  a.phase = b.phase ∧ a.avg = b.avg ∧ a.cursor = b.cursor ∧ a.hist = b.hist

/-- The fields of R51's derived class. -/
def sameDerived (a b : Channel) : Prop :=
  a.period = b.period ∧ a.delay = b.delay ∧ a.tremLevel = b.tremLevel ∧ a.vibLevel = b.vibLevel

/-- The fields of R51's tick-rate class. -/
def sameTickRate (a b : Channel) : Prop :=
  a.waveSel = b.waveSel ∧ a.mode = b.mode ∧ a.note = b.note ∧ a.slide = b.slide ∧ a.preVol = b.preVol ∧
    a.postVol = b.postVol ∧ a.fade = b.fade ∧ a.length = b.length ∧ a.delayReq = b.delayReq ∧
    a.filterW = b.filterW ∧ a.dry = b.dry ∧ a.wet = b.wet ∧ a.feedback = b.feedback ∧ a.attack = b.attack ∧
    a.decay = b.decay ∧ a.peak = b.peak ∧ a.sustain = b.sustain ∧ a.release = b.release ∧ a.envPos = b.envPos ∧
    a.noteOn = b.noteOn ∧ a.tremDepth = b.tremDepth ∧ a.tremSel = b.tremSel ∧ a.tremRate = b.tremRate ∧
    a.tremPhase = b.tremPhase ∧ a.vibDepth = b.vibDepth ∧ a.vibSel = b.vibSel ∧ a.vibRate = b.vibRate ∧
    a.vibPhase = b.vibPhase

/-- One operation after another; the first that stops ends the sequence. -/
def andThen (o : Host.Outcome State Fault Refusal) (f : State → Host.Outcome State Fault Refusal) :
    Host.Outcome State Fault Refusal :=
  match o with
  | .next s => f s
  | .fault r => .fault r
  | .refused r => .refused r

/-- An operation that is chosen by what channel `c` holds at that moment. -/
def chosenBy (c : Nat) (f : Channel → State → Host.Outcome State Fault Refusal) (s : State) :
    Host.Outcome State Fault Refusal :=
  match s.chan? c with
  | some ch => f ch s
  | none => .fault (.absentChannel c)

/-- 41_tick_scheduler.md R110: the seven steps of channel `c`, in order: slide, fade, the envelope variant of 30_encoding.md R92 and
after it the increment of ENV_POS (42_envelope_lfo.md R126), tremolo and vibrato, the delay request of 30_encoding.md R94, width, period. -/
def tickChannel (c : Nat) (s : State) : Host.Outcome State Fault Refusal :=
  [exec (.chTickSlide c), exec (.chTickFade c), chosenBy c (fun ch => exec (selectEnv ch c)),
    chosenBy c (fun ch u => .next (u.setChan c { ch with envPos := ch.envPos + 1 })), exec (.lfoTrem c), exec (.lfoVib c),
    chosenBy c (fun ch => exec (selectDreq ch.delayReq c)), exec (.chTickWidth c), exec (.chTickPeriod c)].foldl
    andThen (.next s)

/-- R110, R112: the loop over the channels in ascending order, each finished before the next. -/
def tickLoop (s : State) : Host.Outcome State Fault Refusal :=
  (List.range (2 * s.numPairs)).foldl (fun o c => andThen o (tickChannel c)) (.next s)

/-- 45_mixer_control.md R153: PAIR_STEP on each pair in ascending order, with the outputs collected. -/
def pairLoop (s : State) : Option (State × List (Sample × Sample)) :=
  (List.range s.numPairs).foldl
    (fun o p => o.bind fun u =>
      match exec (.pairStep p) u.1 with
      | .next v =>
        match v.ret with
        | [l, r] => some (v, u.2 ++ [(l, r)])
        | _ => none
      | _ => none) (some (s, []))

end Sys2Proof.Statements

open Sys2Proof Sys2Proof.Machine Sys2Proof.Statements

/-! ### Encodings -/

/-- 30_encoding.md R80 to R87: on every core, every well-formed host transaction, at every value of its operands, is
decoded from its own words, whatever words follow. -/
def Obligations.DecodeOfEncodeIsTheTransaction : Prop :=
  ∀ (n : Nat) (i : Instr) (rest : List Word), n ≤ 56 → i.isTransaction = true → i.wf n = true →
    decode n (encode i ++ rest) = .ok (i, rest)

/-- R80 to R89: whatever the decoder accepts is a well-formed host transaction whose words are exactly those read. -/
def Obligations.EncodeOfDecodeIsTheWords : Prop :=
  ∀ (n : Nat) (ws rest : List Word) (i : Instr), n ≤ 56 → decode n ws = .ok (i, rest) →
    i.isTransaction = true ∧ i.wf n = true ∧ encode i ++ rest = ws

/-- Words written out in 46_host_interface.md and 95_test_vectors.md, on the reference core. -/
def Obligations.WordsOfTheSpecDecode : Prop :=
  decode 4 [0x00000000] = .ok (.nop 0, []) ∧
  decode 4 [0x40001008] = .ok (.read 0x1008, []) ∧
  decode 4 [0x80000008, 1] = .ok (.writeCtrl 1, []) ∧
  decode 4 [0x80000010, 0] = .ok (.writeSeqAck 0, []) ∧
  decode 4 [0x80000014, 0xAC44] = .ok (.writeSampleRate 44100, []) ∧
  decode 4 [0x8000111C, 0x8000] = .ok (.writeReg (.chan 1 .length) 0x8000, []) ∧
  decode 4 [0x80008114, 0x10000] = .ok (.writePair 1 .postVol 0x10000, []) ∧
  decode 4 [0x80001020, 5] = .ok (.writeIgnored 0x1020 5, []) ∧
  decode 4 [0x40001002] = .ok (.void 1 0 0x1002 none, []) ∧
  decode 4 [0xC0001008] = .ok (.void 3 0 0x1008 none, [])

/-! ### Reset and the step -/

/-- 70_reset_and_hazards.md R190: what RESET leaves, with the reset values of 10_state.md R20 and R30; the parameters stay. -/
def Obligations.ResetLeavesTheResetValues : Prop :=
  ∀ s : State, ∃ t, exec .reset s = .next t ∧
    t.run = false ∧ t.started = false ∧ t.seqPending = false ∧ t.midStep = false ∧
    t.sampleRate = 48000 ∧ t.bpm = 120 ∧ t.tickRate = 24 ∧ t.tickSpeed = 6 ∧ t.tickCounter = 0 ∧
    t.count = 0 ∧ t.nextTick = 0 ∧ t.outL = 0 ∧ t.outR = 0 ∧ t.out = [] ∧
    t.numPairs = s.numPairs ∧ t.histLog2 = s.histLog2 ∧
    ∀ c < 2 * s.numPairs, ∃ ch, t.chan? c = some ch ∧ ch.note = 0x003C0000 ∧ ch.postVol = 0x8000 ∧
      ch.length = 0x10000 ∧ ch.filterW = 1 ∧ ch.dry = 0x10000 ∧ (∀ i, ch.hist.read i = 0) ∧
      ∀ e ∈ readTable ch, e.1 ≠ 0x08 → e.1 ≠ 0x14 → e.1 ≠ 0x1C → e.1 ≠ 0x30 → e.1 ≠ 0x3C → e.2 = 0

/-- A step runs the decoded instruction: a host transaction at the head of the agenda whose words decode to a well-formed
instruction is run on the state with that event removed, and nothing else is done around it. The reset input, which overrides
whatever the core is doing (70_reset_and_hazards.md R191), runs RESET in the same way. -/
def Obligations.StepRunsTheDecodedTransaction : Prop :=
  (∀ (s : State) (ws : List Word) (rest : List Event) (i : Instr), s.agenda = .txn ws :: rest →
    decode s.numPairs ws = .ok (i, []) → i.wf s.numPairs = true → step s = exec i { s with agenda := rest }) ∧
  (∀ (s : State) (rest : List Event), s.agenda = .resetLine :: rest → step s = exec .reset { s with agenda := rest })

/-- 45_mixer_control.md R150: a turn of the core, given by the agenda or taken because no event is listed, runs the
operation of R150's table, and none of them when the core is stalled or stopped. The premise is R24's invariant. -/
def Obligations.CoreTurnRunsTheEnabledOperation : Prop :=
  ∀ (s : State) (rest : List Event), (s.agenda = .coreTurn :: rest ∨ (s.agenda = [] ∧ rest = [])) →
    (s.seqPending = true → s.midStep = true) →
    (s.run = true → s.midStep = false → step s = exec .outputStepA { s with agenda := rest }) ∧
    (s.midStep = true → s.seqPending = false → step s = exec .outputStepB { s with agenda := rest }) ∧
    (s.seqPending = true → step s = .next { s with agenda := rest }) ∧
    (s.run = false → s.midStep = false → step s = .next { s with agenda := rest })

/-- A step stops only at an agenda entry that is not one whole transaction, and it says so by name. -/
def Obligations.StepStopsOnlyAtAPartTransaction : Prop :=
  ∀ s : State, (∃ t, step s = .next t) ∨
    ∃ ws rest, s.agenda = .txn ws :: rest ∧
      ((∃ e, decode s.numPairs ws = .error e ∧ step s = .refused (.badTransaction e)) ∨
        ∃ i w more, decode s.numPairs ws = .ok (i, w :: more) ∧ step s = .refused (.trailingWords (more.length + 1)))

/-- An internal operation on a channel or a pair that the machine does not have stops with a fault of its own, and so
does MIX on the wrong number of pair outputs. -/
def Obligations.AbsentOperandsStop : Prop :=
  (∀ (s : State) (c : Nat), 2 * s.numPairs ≤ c → ∀ i ∈ [Instr.chTickSlide c, .chTickFade c, .envIdle c, .envRelease c,
      .envAttack c, .envDecay c, .envSustain c, .lfoTrem c, .lfoVib c, .dreqNone c, .dreqTicks c, .dreqNote c,
      .dreqRsvd c, .chTickWidth c, .chTickPeriod c, .ncoAdvance c],
    exec i s = .fault (.absentChannel c)) ∧
  (∀ (s : State) (c : Nat) (x : Sample), 2 * s.numPairs ≤ c →
    exec (.voiceScale c x) s = .fault (.absentChannel c) ∧ exec (.dfStep c x) s = .fault (.absentChannel c)) ∧
  (∀ (s : State) (p : Nat), s.numPairs ≤ p → ∀ i ∈ [Instr.pairStereo p, .pairPm p, .pairAm p, .pairSync p, .pairStep p],
    exec i s = .fault (.absentPair p)) ∧
  (∀ (s : State) (outs : List (Sample × Sample)), outs.length ≠ s.numPairs →
    exec (.mix outs) s = .fault (.pairOutputCount outs.length))

/-! ### Invariants -/

/-- The safe states (Safety.lean): parameters in range, histories canonical and inside their buffers, CURSOR in [0, HIST_LEN - 1],
DELAY in [0, MAX_DELAY], the status bits in order, COUNT the number of samples produced, OUT_L and OUT_R the last of them. -/
def Obligations.ResetIsSafe : Prop :=
  State.reset.safe = true ∧ State.reset.onSchedule = true ∧
    ∀ n h, Config.numPairsOk n = true → Config.histLog2Ok h = true → (State.resetWith n h).safe = true

/-- Every step from a safe state, whatever event it takes, leads to a safe state. -/
def Obligations.EveryStepKeepsSafe : Prop :=
  ∀ s t : State, s.safe = true → step s = .next t → t.safe = true

/-- 10_state.md R54(1): COUNT does not pass NEXT_TICK, as long as NEXT_TICK does not wrap at 64 bits. -/
def Obligations.EveryStepKeepsTheTickSchedule : Prop :=
  ∀ s t : State, s.onSchedule = true → (s.count.toNat : Int) + s.tickInterval < 18446744073709551616 →
    step s = .next t → t.onSchedule = true

/-- 70_reset_and_hazards.md R190: no step changes NUM_PAIRS or HIST_LOG2. -/
def Obligations.NoStepChangesTheParameters : Prop :=
  ∀ s t : State, step s = .next t → t.numPairs = s.numPairs ∧ t.histLog2 = s.histLog2

/-- 10_state.md R24, R26: STARTED is sticky and locks SAMPLE_RATE: once it is set, only the reset input changes either. -/
def Obligations.StartedLocksTheSampleRate : Prop :=
  ∀ s t : State, s.started = true → (∀ rest, s.agenda ≠ .resetLine :: rest) → step s = .next t →
    t.started = true ∧ t.sampleRate = s.sampleRate

/-- 60_exceptions.md R177: a host that never acknowledges leaves the core stalled for any number of steps. -/
def Obligations.UnacknowledgedCallbackHoldsTheCore : Prop :=
  ∀ (s : State) (k : Nat), s.seqPending = true → s.agenda = [] → Host.Core.run Sys2Proof.core k s = Host.Outcome.next s

/-! ### Host transactions -/

/-- 46_host_interface.md R160, R167: NOP, an ignored WRITE and a void transaction change no state; a void READ returns 0. -/
def Obligations.NopVoidAndIgnoredChangeNothing : Prop :=
  ∀ (s : State) (b : Addr) (d : Word) (op : BitVec 2) (rsv : BitVec 14) (data : Option Word),
    exec (.nop b) s = .next s ∧ exec (.writeIgnored b d) s = .next s ∧
    (op ≠ 1 → exec (.void op rsv b data) s = .next s) ∧
    exec (.void 1 rsv b data) s = .next { s with resp := s.resp ++ [0] }

/-- 46_host_interface.md R161, 10_state.md R20 to R22: what a READ of each global register returns. -/
def Obligations.ReadOfEachGlobalRegister : Prop :=
  ∀ s : State, s.numPairs ≤ 56 → s.histLog2 ≤ 24 →
    reads s 0x0000 0x4E434F07 ∧
    reads s 0x0004 (BitVec.ofNat 32 (256 * s.histLog2 + s.numPairs)) ∧
    reads s 0x0008 (if s.run then 1 else 0) ∧
    reads s 0x000C ((if s.started then 1 else 0) ||| (if s.seqPending then 2 else 0) ||| (if s.midStep then 4 else 0)) ∧
    reads s 0x0010 0 ∧ reads s 0x0014 s.sampleRate ∧ reads s 0x0018 s.bpm ∧ reads s 0x001C s.tickRate ∧
    reads s 0x0020 s.tickSpeed ∧ reads s 0x0024 s.tickCounter ∧
    reads s 0x0028 (s.count.extractLsb' 0 32) ∧ reads s 0x002C (s.count.extractLsb' 32 32) ∧
    reads s 0x0030 (s.nextTick.extractLsb' 0 32) ∧ reads s 0x0034 (s.nextTick.extractLsb' 32 32) ∧
    reads s 0x0038 (s.outL.signExtend 32) ∧ reads s 0x003C (s.outR.signExtend 32)

/-- R161, 10_state.md R30: what a READ of each channel register returns, for every channel the core has. -/
def Obligations.ReadOfEachChannelRegister : Prop :=
  ∀ (s : State) (c : Nat) (ch : Channel), s.numPairs ≤ 56 → s.chan? c = some ch →
    ∀ e ∈ readTable ch, reads s (BitVec.ofNat 16 (0x1000 + 0x100 * c + e.1)) e.2

/-- 20_memory.md R61, 30_encoding.md R84 to R87, R89: a reserved range, an absent channel or pair, an offset of 0x8C or above, and
the pair alias read 0; a WRITE to a reserved address or to a read-only register, through a channel or through the alias, is decoded as
WRITE.IGNORED, which stores nothing. -/
def Obligations.ReservedReadsZeroAndReadOnlyDiscardsWrites : Prop :=
  (∀ (s : State) (b : Addr),
    (0x0040 ≤ b.toNat ∧ b.toNat < 0x1000) ∨
    (0x1000 + 0x200 * s.numPairs ≤ b.toNat ∧ b.toNat < 0x8000) ∨
    (0x1000 ≤ b.toNat ∧ b.toNat < 0x8000 ∧ 0x8C ≤ b.toNat % 0x100) ∨
    0x8000 ≤ b.toNat →
    reads s b 0) ∧
  (∀ (s : State) (b : Addr) (d : Word), b.toNat % 4 = 0 →
    b.toNat ∈ [0x00, 0x04, 0x0C, 0x24, 0x28, 0x2C, 0x30, 0x34, 0x38, 0x3C] ∨
    (0x0040 ≤ b.toNat ∧ b.toNat < 0x1000) ∨
    (0x1000 + 0x200 * s.numPairs ≤ b.toNat ∧ b.toNat < 0x8000) ∨
    0x8000 + 0x100 * s.numPairs ≤ b.toNat ∨
    (0x1000 ≤ b.toNat ∧ 0x8C ≤ b.toNat % 0x100) ∨
    (0x1000 ≤ b.toNat ∧ b.toNat % 0x100 ∈ [0x20, 0x24, 0x2C, 0x34, 0x38, 0x74, 0x88]) →
    decode s.numPairs [0x80000000 + b.zeroExtend 32, d] = .ok (.writeIgnored b d, []) ∧
      exec (.writeIgnored b d) s = .next s)

/-- 46_host_interface.md R162, 30_encoding.md R87: WRITE.REG stores to the register it names the bits R87 keeps, and changes nothing
else. -/
def Obligations.WriteRegStoresTheRegister : Prop :=
  ∀ (s : State) (d : Word),
    exec (.writeReg .bpm d) s = .next { s with bpm := d } ∧
    exec (.writeReg .tickRate d) s = .next { s with tickRate := d } ∧
    exec (.writeReg .tickSpeed d) s = .next { s with tickSpeed := d } ∧
    decode s.numPairs [0x80000018, d] = .ok (.writeReg .bpm d, []) ∧
    decode s.numPairs [0x8000001C, d] = .ok (.writeReg .tickRate d, []) ∧
    decode s.numPairs [0x80000020, d] = .ok (.writeReg .tickSpeed d, []) ∧
    ∀ (c : Nat) (ch : Channel), s.chan? c = some ch → ∀ e ∈ storeTable ch d,
      exec (.writeReg (.chan c e.1) d) s = .next (s.setChan c e.2) ∧
      (s.numPairs ≤ 56 → decode s.numPairs [0x80000000 + BitVec.ofNat 32 (0x1000 + 0x100 * c + e.1.offset), d] =
        .ok (.writeReg (.chan c e.1) d, []))

/-- 46_host_interface.md R163: WRITE.PAIR is the write to both channels of the pair, in one action. -/
def Obligations.WritePairStoresBothChannels : Prop :=
  ∀ (s : State) (p : Nat) (pr : Pair) (d : Word), s.pairs[p]? = some pr →
    ∀ e ∈ (storeTable pr.left d).zip (storeTable pr.right d),
      exec (.writePair p e.1.1 d) s = .next (s.setPair p ⟨e.1.2, e.2.2⟩) ∧
      (s.numPairs ≤ 56 → decode s.numPairs [0x80000000 + BitVec.ofNat 32 (0x8000 + 0x100 * p + e.1.1.offset), d] =
        .ok (.writePair p e.1.1 d, []))

/-- 70_reset_and_hazards.md R196: a READ after a WRITE to a writable channel register returns the stored bits. -/
def Obligations.ReadAfterWriteReturnsTheStoredBits : Prop :=
  ∀ (s : State) (c : Nat) (r : ChReg) (d : Word), s.numPairs ≤ 56 → c < 2 * s.numPairs → r.writable = true →
    ∃ t, exec (.writeReg (.chan c r) d) s = .next t ∧
      reads t (BitVec.ofNat 16 (0x1000 + 0x100 * c + r.offset)) (storedBits r d)

/-- 46_host_interface.md R164. -/
def Obligations.WriteCtrlSetsRunAndStarted : Prop :=
  ∀ (s : State) (d : Word),
    exec (.writeCtrl d) s =
      .next { s with run := d.extractLsb' 0 1 == 1, started := if d.extractLsb' 0 1 = 1 then true else s.started } ∧
    decode s.numPairs [0x80000008, d] = .ok (.writeCtrl d, [])

/-- 46_host_interface.md R165. -/
def Obligations.SeqAckEndsTheStall : Prop :=
  ∀ (s : State) (d : Word),
    (s.seqPending = true → exec (.writeSeqAck d) s = .next { s with seqPending := false }) ∧
    (s.seqPending = false → exec (.writeSeqAck d) s = .next s) ∧
    decode s.numPairs [0x80000010, d] = .ok (.writeSeqAck d, [])

/-- 46_host_interface.md R166. -/
def Obligations.WriteSampleRateBeforeStartOnly : Prop :=
  ∀ (s : State) (d : Word),
    (s.started = false → exec (.writeSampleRate d) s = .next { s with sampleRate := d }) ∧
    (s.started = true → exec (.writeSampleRate d) s = .next s) ∧
    decode s.numPairs [0x80000014, d] = .ok (.writeSampleRate d, [])

/-- 10_state.md R51, the host's part: no host transaction changes a sample-rate or a derived field of any channel, the
output stream, or a counter. -/
def Obligations.HostWritesReachNoSampleRateField : Prop :=
  ∀ (s t : State) (i : Instr), i.isTransaction = true → exec i s = .next t →
    t.out = s.out ∧ t.outL = s.outL ∧ t.outR = s.outR ∧ t.count = s.count ∧ t.nextTick = s.nextTick ∧
    t.tickCounter = s.tickCounter ∧ t.midStep = s.midStep ∧
    ∀ c ch, s.chan? c = some ch → ∃ ch', t.chan? c = some ch' ∧ sameSampleRate ch' ch ∧ sameDerived ch' ch

/-- The frame of every operation on one channel: it alone changes. -/
def Obligations.ChannelUpdateTouchesOneChannel : Prop :=
  ∀ (s : State) (c : Nat) (ch : Channel), c < 2 * s.numPairs →
    (s.setChan c ch).chan? c = some ch ∧
    (∀ c', c' ≠ c → (s.setChan c ch).chan? c' = s.chan? c') ∧
    s.setChan c ch = { s with pairs := (s.setChan c ch).pairs } ∧ (s.setChan c ch).numPairs = s.numPairs

/-! ### The tick -/

/-- 41_tick_scheduler.md R113. -/
def Obligations.SlideAddsToTheNote : Prop :=
  ∀ (s : State) (c : Nat) (ch : Channel), s.chan? c = some ch →
    exec (.chTickSlide c) s = .next (s.setChan c { ch with note := ch.note + ch.slide })

/-- 41_tick_scheduler.md R114. -/
def Obligations.FadeKeepsPostVolAboveZero : Prop :=
  ∀ (s : State) (c : Nat) (ch : Channel), s.chan? c = some ch →
    ∃ v : Word, v.toInt = min (max (ch.postVol.toInt + ch.fade.toInt) 0) (2 ^ 31 - 1) ∧
      exec (.chTickFade c) s = .next (s.setChan c { ch with postVol := v })

/-- 42_envelope_lfo.md R121, R125: ENV.IDLE and ENV.SUSTAIN leave the volume unchanged; R120: when each is selected. That they leave
the whole state unchanged, ENV_POS too, is the model's reading (log entry 9, DEDUCED): R126's increment follows the variant. -/
def Obligations.IdleAndSustainChangeNothing : Prop :=
  (∀ (s : State) (c : Nat), c < 2 * s.numPairs → exec (.envIdle c) s = .next s ∧ exec (.envSustain c) s = .next s) ∧
  (∀ (ch : Channel) (c : Nat), (selectEnv ch c = .envIdle c ↔ ch.release.toInt < 1) ∧
    (selectEnv ch c = .envSustain c ↔ 1 ≤ ch.release.toInt ∧ ch.noteOn = true ∧
      ¬(1 ≤ ch.attack.toInt ∧ (ch.envPos.toNat : Int) < Int.tdiv ch.peak.toInt ch.attack.toInt) ∧
      ch.preVol.toInt ≤ ch.sustain.toInt))

/-- 42_envelope_lfo.md R122: the result lies in [0, 2^31 - 1]. The variant is taken with `RELEASE >= 1`, when NOTE_ON is 0. -/
def Obligations.ReleaseLowersPreVolToZero : Prop :=
  ∀ (s : State) (c : Nat) (ch : Channel), s.chan? c = some ch → 1 ≤ ch.release.toInt →
    (selectEnv ch c = .envRelease c ↔ ch.noteOn = false) ∧
    ∃ v : Word, v.toInt = max (ch.preVol.toInt - ch.release.toInt) 0 ∧
      exec (.envRelease c) s = .next (s.setChan c { ch with preVol := v })

/-- 42_envelope_lfo.md R123. The variant is taken with `ATTACK >= 1`; and when it is selected. -/
def Obligations.AttackRaisesPreVolToFullScale : Prop :=
  ∀ (s : State) (c : Nat) (ch : Channel), s.chan? c = some ch → 1 ≤ ch.attack.toInt →
    (selectEnv ch c = .envAttack c ↔ 1 ≤ ch.release.toInt ∧ ch.noteOn = true ∧
      (ch.envPos.toNat : Int) < Int.tdiv ch.peak.toInt ch.attack.toInt) ∧
    ∃ v : Word, v.toInt = min (ch.preVol.toInt + ch.attack.toInt) 0x10000 ∧
      exec (.envAttack c) s = .next (s.setChan c { ch with preVol := v })

/-- 42_envelope_lfo.md R124, and when the variant is selected. -/
def Obligations.DecayLowersPreVolToZero : Prop :=
  ∀ (s : State) (c : Nat) (ch : Channel), s.chan? c = some ch →
    (selectEnv ch c = .envDecay c ↔ 1 ≤ ch.release.toInt ∧ ch.noteOn = true ∧
      ¬(1 ≤ ch.attack.toInt ∧ (ch.envPos.toNat : Int) < Int.tdiv ch.peak.toInt ch.attack.toInt) ∧
      ch.sustain.toInt < ch.preVol.toInt) ∧
    ∃ v : Word, v.toInt = min (max (ch.preVol.toInt - ch.decay.toInt) 0) (2 ^ 31 - 1) ∧
      exec (.envDecay c) s = .next (s.setChan c { ch with preVol := v })

/-- 42_envelope_lfo.md R128, R129: the phase is advanced modulo 0x10000, and the level is sampled at the new phase,
whatever the waveform generator. -/
def Obligations.LfosAdvanceAndSample : Prop :=
  ∀ (s : State) (c : Nat) (ch : Channel), s.chan? c = some ch →
    (∃ lv : Word,
      lv.toInt = sat32 ((Config.waveFn ch.tremSel ((ch.tremPhase + ch.tremRate.truncate 16).zeroExtend 32)).toInt
        * ch.tremDepth.toInt / 2 ^ 15) ∧
      exec (.lfoTrem c) s = .next (s.setChan c
        { ch with tremPhase := ch.tremPhase + ch.tremRate.truncate 16, tremLevel := lv })) ∧
    (∃ lv : Word,
      lv.toInt = sat32 ((Config.waveFn ch.vibSel ((ch.vibPhase + ch.vibRate.truncate 16).zeroExtend 32)).toInt
        * ch.vibDepth.toInt / 2 ^ 15) ∧
      exec (.lfoVib c) s = .next (s.setChan c
        { ch with vibPhase := ch.vibPhase + ch.vibRate.truncate 16, vibLevel := lv }))

/-- 41_tick_scheduler.md R115, with the tags that select the two. -/
def Obligations.NoneAndReservedRequestsAreDiscarded : Prop :=
  ∀ (s : State) (c : Nat) (ch : Channel), s.chan? c = some ch →
    exec (.dreqNone c) s = .next (s.setChan c { ch with delayReq := 0 }) ∧
    exec (.dreqRsvd c) s = .next (s.setChan c { ch with delayReq := 0 }) ∧
    (selectDreq ch.delayReq c = .dreqNone c ↔ ch.delayReq.toNat / 2 ^ 30 = 0) ∧
    (selectDreq ch.delayReq c = .dreqRsvd c ↔ ch.delayReq.toNat / 2 ^ 30 = 3)

/-- 41_tick_scheduler.md R116, R117: a request for ticks or for notes, resolved and clamped to MAX_DELAY, with the tags that
select the two. -/
def Obligations.DelayRequestsResolveToSamples : Prop :=
  ∀ (s : State) (c : Nat) (ch : Channel), s.histLog2 ≤ 24 → s.chan? c = some ch →
    (∃ d : Word, (d.toNat : Int) = min ((ch.delayReq.toNat % 2 ^ 30 : Nat) * s.tickInterval) ((2 ^ s.histLog2 / 2 : Nat) : Int) ∧
      exec (.dreqTicks c) s = .next (s.setChan c { ch with delay := d, delayReq := 0 })) ∧
    (∃ d : Word, (d.toNat : Int) =
        min ((ch.delayReq.toNat % 2 ^ 30 : Nat) * (s.tickRate.toNat : Int) * s.tickInterval)
          ((2 ^ s.histLog2 / 2 : Nat) : Int) ∧
      exec (.dreqNote c) s = .next (s.setChan c { ch with delay := d, delayReq := 0 })) ∧
    (selectDreq ch.delayReq c = .dreqTicks c ↔ ch.delayReq.toNat / 2 ^ 30 = 1) ∧
    (selectDreq ch.delayReq c = .dreqNote c ↔ ch.delayReq.toNat / 2 ^ 30 = 2)

/-- 41_tick_scheduler.md R118: FILTER_W is clamped to [1, MAX_WIDTH]. -/
def Obligations.WidthIsClamped : Prop :=
  ∀ (s : State) (c : Nat) (ch : Channel), s.chan? c = some ch → 2 ≤ s.histLog2 → s.histLog2 ≤ 24 →
    ∃ w : Word, w.toNat = min (max ch.filterW.toNat 1) (2 ^ s.histLog2 / 2) ∧
      exec (.chTickWidth c) s = .next (s.setChan c { ch with filterW := w })

/-- 41_tick_scheduler.md R119, 40_note_pitch.md R100: the period is that of the effective note, which wraps at 32 bits. -/
def Obligations.PeriodIsRecomputed : Prop :=
  ∀ (s : State) (c : Nat) (ch : Channel), s.chan? c = some ch →
    exec (.chTickPeriod c) s =
      .next (s.setChan c { ch with period := periodFn (ch.note + ch.vibLevel) ch.length s.sampleRate })

/-- 40_note_pitch.md R101, R102: the period function is the exact floor of the real value, saturated at 2^32 - 1. -/
def Obligations.PeriodIsTheExactFloor : Prop :=
  ∀ n len rate : Word,
    (periodFn n len rate).toNat =
      if rate = 0 then 0
      else min ⌊440 * (2 : ℝ) ^ (((n.toInt : ℝ) / 65536 - 69) / 12) * (len.toNat : ℝ) / (rate.toNat : ℝ)⌋₊ (2 ^ 32 - 1)

/-- 40_note_pitch.md R104: the reference values at length 0x10000, and the further values at rate 48000. -/
def Obligations.PeriodReferenceValues : Prop :=
  ([0x00000000, 0x00300000, 0x00390000, 0x003C0000, 0x00450000, 0x00458000, 0x00480000, 0x00510000, 0x80000000,
      0x7FFFFFFF] : List Word).map (fun n => ((periodFn n 0x10000 48000).toNat, (periodFn n 0x10000 44100).toNat)) =
    [(11, 12), (178, 194), (300, 326), (357, 388), (600, 653), (618, 673), (714, 777), (1201, 1307), (0, 0),
      (0xFFFFFFFF, 0xFFFFFFFF)] ∧
  ([0x003C0000, 0x00450000, 0x00510000] : List Word).map (fun n => (periodFn n 0x100 48000).toNat) = [1, 2, 4] ∧
  ([0x003C0000, 0x00450000] : List Word).map (fun n => (periodFn n 0xFFFFFFFF 48000).toNat) = [23409859, 39370533]

/-- 41_tick_scheduler.md R111: the interval in whole numbers. -/
def Obligations.TickIntervalFormula : Prop :=
  ∀ s : State,
    s.tickInterval =
      if s.bpm = 0 ∨ s.tickRate = 0 then 1
      else ((max 1 (60 * s.sampleRate.toNat / s.bpm.toNat / s.tickRate.toNat) : Nat) : Int)

/-- 41_tick_scheduler.md R110, R112: TICK is the seven steps of each channel in ascending order, then the schedule: NEXT_TICK from
COUNT, and TICK_COUNTER one up. -/
def Obligations.TickIsTheChannelLoop : Prop :=
  ∀ s : State, exec .tick s = andThen (tickLoop s) (fun t => .next { t with
    nextTick := t.count + BitVec.ofInt 64 t.tickInterval
    tickCounter := t.tickCounter + 1 })

/-- What the seven steps of 41_tick_scheduler.md R110 leave in each channel: the slid note, the faded volume, the envelope by the
order of 42_envelope_lfo.md R120 with ENV_POS one up (R126), an empty request slot, the clamped width, and the period of the new
note, vibrato level and length. -/
def Obligations.TickResultsInEachChannel : Prop :=
  ∀ s : State, 2 ≤ s.histLog2 → s.histLog2 ≤ 24 → ∃ t, exec .tick s = .next t ∧
    ∀ c ch, s.chan? c = some ch → ∃ ch', t.chan? c = some ch' ∧
      ch'.note = ch.note + ch.slide ∧
      ch'.postVol.toInt = min (max (ch.postVol.toInt + ch.fade.toInt) 0) (2 ^ 31 - 1) ∧
      ch'.preVol.toInt =
        (if ch.release.toInt < 1 then ch.preVol.toInt
        else if ch.noteOn = false then max (ch.preVol.toInt - ch.release.toInt) 0
        else if 1 ≤ ch.attack.toInt ∧ (ch.envPos.toNat : Int) < Int.tdiv ch.peak.toInt ch.attack.toInt then
          min (ch.preVol.toInt + ch.attack.toInt) 0x10000
        else if ch.sustain.toInt < ch.preVol.toInt then min (max (ch.preVol.toInt - ch.decay.toInt) 0) (2 ^ 31 - 1)
        else ch.preVol.toInt) ∧
      ch'.envPos = ch.envPos + 1 ∧ ch'.delayReq = 0 ∧
      ch'.filterW.toNat = min (max ch.filterW.toNat 1) (2 ^ s.histLog2 / 2) ∧
      ch'.period = periodFn (ch'.note + ch'.vibLevel) ch'.length s.sampleRate ∧
      ch'.length = ch.length ∧ sameSampleRate ch' ch

/-- 90_conflicts.md C11, 95_test_vectors.md property 4: under its premises a tick keeps PRE_VOL in [0, 0x10000]. -/
def Obligations.EnvelopeStaysInFullScale : Prop :=
  ∀ (s : State) (c : Nat) (ch : Channel), s.chan? c = some ch →
    0 ≤ ch.preVol.toInt → ch.preVol.toInt ≤ 0x10000 → 0 ≤ ch.attack.toInt → 0 ≤ ch.decay.toInt →
    0 ≤ ch.release.toInt →
    ∃ t ch', exec .tick s = .next t ∧ t.chan? c = some ch' ∧ 0 ≤ ch'.preVol.toInt ∧ ch'.preVol.toInt ≤ 0x10000

/-! ### The pair step -/

/-- 44_pair_worker.md R140, 10_state.md R39: the phase advances modulo LENGTH and stays below it; at LENGTH 0 it is 0. -/
def Obligations.PhaseAdvancesModuloLength : Prop :=
  ∀ (s : State) (c : Nat) (ch : Channel), s.chan? c = some ch →
    ∃ ph : Word, exec (.ncoAdvance c) s = .next (s.setChan c { ch with phase := ph }) ∧
      (ch.length = 0 → ph = 0) ∧
      (ch.length ≠ 0 → ph.toNat = (ch.phase.toNat + ch.period.toNat) % ch.length.toNat ∧ ph.toNat < ch.length.toNat)

/-- 44_pair_worker.md R141: the scaled sample is returned, and no register changes. -/
def Obligations.VoiceIsScaledAndSaturated : Prop :=
  ∀ (s : State) (c : Nat) (ch : Channel) (x : Sample), s.chan? c = some ch →
    ∃ y : Sample, y.toInt = sat16 (x.toInt * (ch.preVol.toInt + ch.tremLevel.toInt) / 2 ^ 16) ∧
      exec (.voiceScale c x) s = .next { s with ret := [y] }

/-- 43_delay_filter.md R130, R131: DF_STEP, with every index modulo HIST_LEN. -/
def Obligations.DelayFilterStep : Prop :=
  ∀ (s : State) (c : Nat) (ch : Channel) (x : Sample), s.chan? c = some ch →
    let n : Int := 2 ^ s.histLog2
    let k : Int := ch.cursor.toNat
    let w : Int := min (max ch.filterW.toNat 1) (n / 2)
    let d : Int := min ch.delay.toNat (n / 2)
    let lev := (ch.hist.read ((k - d - w) % n).toNat).toInt
    let store := BitVec.ofInt 16 (sat16 (x.toInt + ch.avg.toInt * ch.feedback.toInt / 2 ^ 16))
    let hist := ch.hist.write (k % n).toNat store
    let ent := (hist.read ((k - d) % n).toNat).toInt
    ∃ avg y cur,
      avg.toInt = sat16 (ch.avg.toInt + Int.tdiv ent w - Int.tdiv lev w) ∧
      y.toInt = sat16 (x.toInt * ch.dry.toInt / 2 ^ 16 + avg.toInt * ch.wet.toInt / 2 ^ 16) ∧
      cur = BitVec.ofInt 32 ((k + 1) % n) ∧
      exec (.dfStep c x) s =
        .next { s.setChan c { ch with hist := hist, avg := avg, cursor := cur } with ret := [y] }

/-- The frame of DF_STEP on memory (20_memory.md R62): in a history in canonical form, the entry at the cursor takes the stored value
and every other entry of it reads as before; no other channel's history changes. -/
def Obligations.DelayFilterStoresOneEntry : Prop :=
  ∀ (s : State) (c : Nat) (ch : Channel) (x : Sample), s.chan? c = some ch → ch.hist.wf = true →
    ∃ t ch', exec (.dfStep c x) s = .next t ∧ t.chan? c = some ch' ∧ ch'.hist.wf = true ∧
      (ch'.hist.read (ch.cursor.toNat % 2 ^ s.histLog2)).toInt =
        sat16 (x.toInt + ch.avg.toInt * ch.feedback.toInt / 2 ^ 16) ∧
      (∀ j, j ≠ ch.cursor.toNat % 2 ^ s.histLog2 → ch'.hist.read j = ch.hist.read j) ∧
      ∀ c', c' ≠ c → t.chan? c' = s.chan? c'

/-- 43_delay_filter.md R133: with width 1, delay 0 and no feedback, an average that is the entry before the cursor stays the latest
sample, and the output is that sample through the dry and wet levels. -/
def Obligations.DegenerateWindowFollowsTheSample : Prop :=
  ∀ (s : State) (c : Nat) (ch : Channel) (x : Sample), 2 ≤ s.histLog2 → s.chan? c = some ch → ch.hist.wf = true →
    ch.cursor.toNat < 2 ^ s.histLog2 → ch.filterW = 1 → ch.delay = 0 → ch.feedback = 0 →
    ch.avg = ch.hist.read (((ch.cursor.toNat : Int) - 1) % 2 ^ s.histLog2).toNat →
    ∃ t ch' y, exec (.dfStep c x) s = .next t ∧ t.chan? c = some ch' ∧ t.ret = [y] ∧ ch'.avg = x ∧
      ch'.avg = ch'.hist.read ch.cursor.toNat ∧
      y.toInt = sat16 (x.toInt * ch.dry.toInt / 2 ^ 16 + x.toInt * ch.wet.toInt / 2 ^ 16)

/-- 44_pair_worker.md R143: in Stereo each slot is its own channel's filtered output, each from its own advanced phase. -/
def Obligations.StereoPairStep : Prop :=
  ∀ (s : State) (p : Nat) (pr : Pair), s.pairs[p]? = some pr →
    let l := pr.left.ncoAdvance
    let r := pr.right.ncoAdvance
    let dl := l.dfStep s.histLen (l.voiceScale (Config.waveFn l.waveSel l.phase))
    let dr := r.dfStep s.histLen (r.voiceScale (Config.waveFn r.waveSel r.phase))
    exec (.pairStereo p) s = .next { s.setPair p ⟨dl.1, dr.1⟩ with ret := [dl.2, dr.2] } ∧
      ∀ m, selectPair m p = .pairStereo p ↔ m = 0

/-- 44_pair_worker.md R144: the right lookup's phase is the left output offset by 0x8000, which lies in [0, 0xFFFF]; the right
phase still advances; both slots carry the right output. -/
def Obligations.PhaseModulationPairStep : Prop :=
  ∀ (s : State) (p : Nat) (pr : Pair), s.pairs[p]? = some pr →
    let l := pr.left.ncoAdvance
    let r := pr.right.ncoAdvance
    let dl := l.dfStep s.histLen (l.voiceScale (Config.waveFn l.waveSel l.phase))
    ∃ phR : Word, (phR.toNat : Int) = dl.2.toInt + 0x8000 ∧ phR.toNat ≤ 0xFFFF ∧
      (let dr := r.dfStep s.histLen (r.voiceScale (Config.waveFn r.waveSel phR))
      exec (.pairPm p) s = .next { s.setPair p ⟨dl.1, dr.1⟩ with ret := [dr.2, dr.2] }) ∧
      ∀ m, selectPair m p = .pairPm p ↔ m = 1

/-- 44_pair_worker.md R145: both slots carry the saturated product of the two filtered outputs. -/
def Obligations.AmplitudeModulationPairStep : Prop :=
  ∀ (s : State) (p : Nat) (pr : Pair), s.pairs[p]? = some pr →
    let l := pr.left.ncoAdvance
    let r := pr.right.ncoAdvance
    let dl := l.dfStep s.histLen (l.voiceScale (Config.waveFn l.waveSel l.phase))
    let dr := r.dfStep s.histLen (r.voiceScale (Config.waveFn r.waveSel r.phase))
    ∃ a : Sample, a.toInt = sat16 (dl.2.toInt * dr.2.toInt / 2 ^ 15) ∧
      exec (.pairAm p) s = .next { s.setPair p ⟨dl.1, dr.1⟩ with ret := [a, a] } ∧
      ∀ m, selectPair m p = .pairAm p ↔ m = 2

/-- 44_pair_worker.md R146: the right phase is set to 0, before the right sample is computed, exactly when the left phase plus its
period reaches the left length; both slots carry the right output. -/
def Obligations.SyncPairStep : Prop :=
  ∀ (s : State) (p : Nat) (pr : Pair), s.pairs[p]? = some pr →
    let l := pr.left.ncoAdvance
    let r := if pr.left.length.toNat ≤ pr.left.phase.toNat + pr.left.period.toNat
      then { pr.right.ncoAdvance with phase := 0 } else pr.right.ncoAdvance
    let dl := l.dfStep s.histLen (l.voiceScale (Config.waveFn l.waveSel l.phase))
    let dr := r.dfStep s.histLen (r.voiceScale (Config.waveFn r.waveSel r.phase))
    exec (.pairSync p) s = .next { s.setPair p ⟨dl.1, dr.1⟩ with ret := [dr.2, dr.2] } ∧
      (pr.left.length.toNat ≤ pr.left.phase.toNat + pr.left.period.toNat → dr.1.phase = 0) ∧
      ∀ m, selectPair m p = .pairSync p ↔ m = 3

/-- 44_pair_worker.md R142, 30_encoding.md R93: PAIR_STEP runs the variant that the left channel's MODE selects, and completes; the
right channel's MODE has no effect on the outputs. -/
def Obligations.LeftModeSelectsTheVariant : Prop :=
  ∀ (s : State) (p : Nat) (pr : Pair), s.pairs[p]? = some pr →
    ∃ t, exec (.pairStep p) s = .next t ∧ exec (selectPair pr.left.mode p) s = .next t ∧
      ∀ m : BitVec 2, ∃ t',
        exec (.pairStep p) (s.setPair p { pr with right := { pr.right with mode := m } }) = .next t' ∧ t'.ret = t.ret

/-- 44_pair_worker.md R147: a pair's state after phase B depends on that pair alone. -/
def Obligations.PairsAreIndependent : Prop :=
  ∀ (s u : State) (p : Nat), s.histLog2 = u.histLog2 → s.pairs[p]? = u.pairs[p]? →
    ∃ t v, exec .outputStepB s = .next t ∧ exec .outputStepB u = .next v ∧ t.pairs[p]? = v.pairs[p]?

/-! ### The output step -/

/-- 45_mixer_control.md R154, R155: each term is shifted on its own, the sums are unbounded, and only the sums saturate; the pair of
sums is then emitted. `emit` appends a pair to the output stream and changes nothing else. -/
def Obligations.MixSumsAndSaturates : Prop :=
  (∀ (s : State) (outs : List (Sample × Sample)), outs.length = s.numPairs →
    ∃ l r : Sample,
      l.toInt = sat16 (List.zipWith (fun o pr => o.1.toInt * pr.left.postVol.toInt / 2 ^ 16) outs s.pairs).sum ∧
      r.toInt = sat16 (List.zipWith (fun o pr => o.2.toInt * pr.right.postVol.toInt / 2 ^ 16) outs s.pairs).sum ∧
      exec (.mix outs) s = .next { s with outL := l, outR := r, out := s.out ++ [(l, r)] }) ∧
  (∀ (s : State) (l r : Sample), exec (.emit l r) s = .next { s with out := s.out ++ [(l, r)] })

/-- 45_mixer_control.md R152, 60_exceptions.md R175: the callback's entry saves nothing. -/
def Obligations.SeqRequestStallsTheCore : Prop :=
  ∀ s : State, exec .seqRequest s = .next { s with tickCounter := 0, seqPending := true, midStep := true }

/-- 45_mixer_control.md R153: phase B is PAIR_STEP on every pair in ascending order, then MIX on their outputs, then COUNT one up
and MID_STEP clear; RUN is not looked at. -/
def Obligations.PhaseBIsThePairLoopAndTheMix : Prop :=
  ∀ s : State, ∃ u outs m t, pairLoop s = some (u, outs) ∧ exec (.mix outs) u = .next m ∧
    exec .outputStepB s = .next t ∧ t = { m with count := s.count + 1, midStep := false, ret := t.ret }

/-- 10_state.md R29, R51, 45_mixer_control.md R155: phase B produces one sample, which OUT_L and OUT_R then hold, and whose four bytes
the serialized stream gains, left first and low byte first (20_memory.md R64); COUNT advances by exactly 1 and MID_STEP is clear;
it changes no other global register, and no tick-rate and no derived field of any channel. -/
def Obligations.PhaseBProducesOneSample : Prop :=
  ∀ s : State, ∃ t, exec .outputStepB s = .next t ∧ t.count = s.count + 1 ∧ t.out = s.out ++ [(t.outL, t.outR)] ∧
    t.outBytes = s.outBytes ++ [t.outL.extractLsb' 0 8, t.outL.extractLsb' 8 8, t.outR.extractLsb' 0 8, t.outR.extractLsb' 8 8] ∧
    t = { s with pairs := t.pairs, outL := t.outL, outR := t.outR, out := t.out, count := t.count, midStep := false } ∧
    ∀ c ch, s.chan? c = some ch → ∃ ch', t.chan? c = some ch' ∧ sameTickRate ch' ch ∧ sameDerived ch' ch

/-- 45_mixer_control.md R151, 60_exceptions.md R174: phase A takes the tick if one is due, then the callback if one is due, else phase B
in the same operation. -/
def Obligations.PhaseATicksThenCallsBack : Prop :=
  ∀ s : State, ∃ u t,
    (if s.count = s.nextTick then exec .tick s = .next u else u = s) ∧
    exec .outputStepA s = .next t ∧
    (if u.tickSpeed.toNat ≤ u.tickCounter.toNat then exec .seqRequest u = .next t else exec .outputStepB u = .next t)

/-- 60_exceptions.md R175: the entry is precise. When the callback is taken, phase A is complete and nothing of phase B has
happened. -/
def Obligations.CallbackEntryIsPrecise : Prop :=
  ∀ s t : State, s.seqPending = false → exec .outputStepA s = .next t → t.seqPending = true →
    t.midStep = true ∧ t.tickCounter = 0 ∧ t.count = s.count ∧ t.out = s.out ∧ t.outL = s.outL ∧ t.outR = s.outR ∧
    (s.count = s.nextTick → t.nextTick = s.count + BitVec.ofInt 64 s.tickInterval) ∧
    ∀ c ch, s.chan? c = some ch → ∃ ch', t.chan? c = some ch' ∧ sameSampleRate ch' ch
end

