-- ==== Sys2Proof/Laws/Memory.lean ====
section
/-! SUPPORT. The laws of the history memory: a read after a write, the canonical form kept, the bound on indexes kept. -/

namespace Sys2Proof.Machine

@[simp] theorem Memory.read_nil (i : Nat) : Memory.read [] i = histReset := rfl

/-- The canonical form of a tail, from a lower bound on. -/
theorem Memory.wfFrom_mono {m : Memory} {lo hi : Nat} (h : lo ≤ hi) (hm : Memory.wfFrom hi m = true) :
    Memory.wfFrom lo m = true := by
  cases m with
  | nil => rfl
  | cons e m =>
    simp only [Memory.wfFrom, Bool.and_eq_true, decide_eq_true_eq] at hm ⊢
    exact ⟨⟨by omega, hm.1.2⟩, hm.2⟩

/-- Below the bound of a canonical list every entry reads as reset. -/
theorem Memory.read_below {m : Memory} {lo i : Nat} (hm : Memory.wfFrom lo m = true) (h : i < lo) :
    m.read i = histReset := by
  induction m generalizing lo with
  | nil => rfl
  | cons e m ih =>
    obtain ⟨a, v⟩ := e
    simp only [Memory.wfFrom, Bool.and_eq_true, decide_eq_true_eq] at hm
    simp only [Memory.read]
    rw [if_neg (by omega)]
    exact ih hm.2 (by omega)

/-- A read after a write: the value written at its index, the old value elsewhere. -/
theorem Memory.read_write {m : Memory} {lo : Nat} (hm : Memory.wfFrom lo m = true) (i j : Nat) (v : Sample) :
    (m.write i v).read j = if j = i then v else m.read j := by
  induction m generalizing lo with
  | nil => by_cases hv : v = histReset <;> simp [Memory.write, Memory.read, hv, eq_comm]
  | cons e m ih =>
    obtain ⟨a, w⟩ := e
    simp only [Memory.wfFrom, Bool.and_eq_true, decide_eq_true_eq] at hm
    simp only [Memory.write]
    rcases lt_trichotomy i a with h | h | h
    · rw [if_pos h]
      by_cases hv : v = histReset
      · rw [if_pos hv]
        by_cases hj : j = i
        · subst hj
          rw [if_pos rfl, hv]
          simp only [Memory.read]
          rw [if_neg (by omega)]
          exact Memory.read_below hm.2 (by omega)
        · rw [if_neg hj]
      · rw [if_neg hv]
        by_cases hj : j = i
        · simp [Memory.read, hj]
        · rw [if_neg hj, Memory.read, if_neg (Ne.symm hj)]
    · subst h
      rw [if_neg (by omega), if_pos rfl]
      by_cases hv : v = histReset
      · rw [if_pos hv]
        by_cases hj : j = i
        · subst hj
          rw [if_pos rfl, hv]
          exact Memory.read_below hm.2 (by omega)
        · rw [if_neg hj, Memory.read, if_neg (Ne.symm hj)]
      · rw [if_neg hv]
        by_cases hj : j = i
        · simp [Memory.read, hj]
        · rw [if_neg hj, Memory.read, if_neg (Ne.symm hj), Memory.read, if_neg (Ne.symm hj)]
    · rw [if_neg (by omega), if_neg (by omega)]
      simp only [Memory.read, ih hm.2]
      by_cases ha : a = j
      · simp only [ha, if_true]
        rw [if_neg (by omega)]
      · simp [ha]

theorem Memory.read_write_same {m : Memory} (hm : m.wf = true) (i : Nat) (v : Sample) :
    (m.write i v).read i = v := by
  rw [Memory.read_write hm, if_pos rfl]

theorem Memory.read_write_other {m : Memory} (hm : m.wf = true) {i j : Nat} (h : j ≠ i) (v : Sample) :
    (m.write i v).read j = m.read j := by
  rw [Memory.read_write hm, if_neg h]

theorem Memory.wfFrom_write {m : Memory} {lo : Nat} (hm : Memory.wfFrom lo m = true) {i : Nat} (hi : lo ≤ i)
    (v : Sample) : Memory.wfFrom lo (m.write i v) = true := by
  induction m generalizing lo with
  | nil => by_cases hv : v = histReset <;> simp [Memory.write, Memory.wfFrom, hv, hi]
  | cons e m ih =>
    obtain ⟨a, w⟩ := e
    have hm0 := hm
    simp only [Memory.wfFrom, Bool.and_eq_true, decide_eq_true_eq] at hm
    simp only [Memory.write]
    rcases lt_trichotomy i a with h | h | h
    · rw [if_pos h]
      by_cases hv : v = histReset
      · rw [if_pos hv]
        exact hm0
      · rw [if_neg hv]
        simp only [Memory.wfFrom, Bool.and_eq_true, decide_eq_true_eq, bne_iff_ne, ne_eq]
        exact ⟨⟨hi, hv⟩, ⟨by omega, by simpa using hm.1.2⟩, hm.2⟩
    · subst h
      rw [if_neg (by omega), if_pos rfl]
      by_cases hv : v = histReset
      · rw [if_pos hv]
        exact Memory.wfFrom_mono (by omega) hm.2
      · rw [if_neg hv]
        simp only [Memory.wfFrom, Bool.and_eq_true, decide_eq_true_eq, bne_iff_ne, ne_eq]
        exact ⟨⟨hi, hv⟩, hm.2⟩
    · rw [if_neg (by omega), if_neg (by omega)]
      simp only [Memory.wfFrom, Bool.and_eq_true, decide_eq_true_eq]
      exact ⟨hm.1, ih hm.2 (by omega)⟩

/-- Every write keeps the canonical form. -/
theorem Memory.wf_write {m : Memory} (hm : m.wf = true) (i : Nat) (v : Sample) : (m.write i v).wf = true :=
  Memory.wfFrom_write hm (Nat.zero_le i) v

/-- A write inside the buffer keeps every listed entry inside it. -/
theorem Memory.within_write {m : Memory} {n i : Nat} (hm : m.within n = true) (hi : i < n) (v : Sample) :
    (m.write i v).within n = true := by
  induction m with
  | nil => by_cases hv : v = histReset <;> simp [Memory.write, Memory.within, hv, hi]
  | cons e m ih =>
    obtain ⟨a, w⟩ := e
    simp only [Memory.within, List.all_cons, Bool.and_eq_true] at hm ih
    simp only [Memory.write]
    split
    · split <;> simp [Memory.within, hm.1, hi] <;> simpa using hm.2
    · split
      · split <;> simp [Memory.within, hi] <;> simpa using hm.2
      · simp only [Memory.within, List.all_cons, Bool.and_eq_true]
        exact ⟨hm.1, ih hm.2⟩

end Sys2Proof.Machine
end

