-- ==== Sys2Proof/Laws/State.lean ====
section
/-! SUPPORT. What each update of the state does to each field: one simp lemma per field and update, so that no later proof unfolds a record update. -/

namespace Sys2Proof.Machine

@[simp] theorem State.setChan_pairs (s : State) (c : Nat) (ch : Channel) : (s.setChan c ch).pairs = s.pairs.modify (pairOf c) (Pair.set (isLeft c) ch) := rfl
@[simp] theorem State.setChan_histLog2 (s : State) (c : Nat) (ch : Channel) : (s.setChan c ch).histLog2 = s.histLog2 := rfl
@[simp] theorem State.setChan_run (s : State) (c : Nat) (ch : Channel) : (s.setChan c ch).run = s.run := rfl
@[simp] theorem State.setChan_started (s : State) (c : Nat) (ch : Channel) : (s.setChan c ch).started = s.started := rfl
@[simp] theorem State.setChan_seqPending (s : State) (c : Nat) (ch : Channel) : (s.setChan c ch).seqPending = s.seqPending := rfl
@[simp] theorem State.setChan_midStep (s : State) (c : Nat) (ch : Channel) : (s.setChan c ch).midStep = s.midStep := rfl
@[simp] theorem State.setChan_sampleRate (s : State) (c : Nat) (ch : Channel) : (s.setChan c ch).sampleRate = s.sampleRate := rfl
@[simp] theorem State.setChan_bpm (s : State) (c : Nat) (ch : Channel) : (s.setChan c ch).bpm = s.bpm := rfl
@[simp] theorem State.setChan_tickRate (s : State) (c : Nat) (ch : Channel) : (s.setChan c ch).tickRate = s.tickRate := rfl
@[simp] theorem State.setChan_tickSpeed (s : State) (c : Nat) (ch : Channel) : (s.setChan c ch).tickSpeed = s.tickSpeed := rfl
@[simp] theorem State.setChan_tickCounter (s : State) (c : Nat) (ch : Channel) : (s.setChan c ch).tickCounter = s.tickCounter := rfl
@[simp] theorem State.setChan_count (s : State) (c : Nat) (ch : Channel) : (s.setChan c ch).count = s.count := rfl
@[simp] theorem State.setChan_nextTick (s : State) (c : Nat) (ch : Channel) : (s.setChan c ch).nextTick = s.nextTick := rfl
@[simp] theorem State.setChan_outL (s : State) (c : Nat) (ch : Channel) : (s.setChan c ch).outL = s.outL := rfl
@[simp] theorem State.setChan_outR (s : State) (c : Nat) (ch : Channel) : (s.setChan c ch).outR = s.outR := rfl
@[simp] theorem State.setChan_out (s : State) (c : Nat) (ch : Channel) : (s.setChan c ch).out = s.out := rfl
@[simp] theorem State.setChan_agenda (s : State) (c : Nat) (ch : Channel) : (s.setChan c ch).agenda = s.agenda := rfl
@[simp] theorem State.setChan_resp (s : State) (c : Nat) (ch : Channel) : (s.setChan c ch).resp = s.resp := rfl
@[simp] theorem State.setChan_ret (s : State) (c : Nat) (ch : Channel) : (s.setChan c ch).ret = s.ret := rfl

@[simp] theorem State.setPair_pairs (s : State) (p : Nat) (pr : Pair) : (s.setPair p pr).pairs = s.pairs.modify p (fun _ => pr) := rfl
@[simp] theorem State.setPair_histLog2 (s : State) (p : Nat) (pr : Pair) : (s.setPair p pr).histLog2 = s.histLog2 := rfl
@[simp] theorem State.setPair_run (s : State) (p : Nat) (pr : Pair) : (s.setPair p pr).run = s.run := rfl
@[simp] theorem State.setPair_started (s : State) (p : Nat) (pr : Pair) : (s.setPair p pr).started = s.started := rfl
@[simp] theorem State.setPair_seqPending (s : State) (p : Nat) (pr : Pair) : (s.setPair p pr).seqPending = s.seqPending := rfl
@[simp] theorem State.setPair_midStep (s : State) (p : Nat) (pr : Pair) : (s.setPair p pr).midStep = s.midStep := rfl
@[simp] theorem State.setPair_sampleRate (s : State) (p : Nat) (pr : Pair) : (s.setPair p pr).sampleRate = s.sampleRate := rfl
@[simp] theorem State.setPair_bpm (s : State) (p : Nat) (pr : Pair) : (s.setPair p pr).bpm = s.bpm := rfl
@[simp] theorem State.setPair_tickRate (s : State) (p : Nat) (pr : Pair) : (s.setPair p pr).tickRate = s.tickRate := rfl
@[simp] theorem State.setPair_tickSpeed (s : State) (p : Nat) (pr : Pair) : (s.setPair p pr).tickSpeed = s.tickSpeed := rfl
@[simp] theorem State.setPair_tickCounter (s : State) (p : Nat) (pr : Pair) : (s.setPair p pr).tickCounter = s.tickCounter := rfl
@[simp] theorem State.setPair_count (s : State) (p : Nat) (pr : Pair) : (s.setPair p pr).count = s.count := rfl
@[simp] theorem State.setPair_nextTick (s : State) (p : Nat) (pr : Pair) : (s.setPair p pr).nextTick = s.nextTick := rfl
@[simp] theorem State.setPair_outL (s : State) (p : Nat) (pr : Pair) : (s.setPair p pr).outL = s.outL := rfl
@[simp] theorem State.setPair_outR (s : State) (p : Nat) (pr : Pair) : (s.setPair p pr).outR = s.outR := rfl
@[simp] theorem State.setPair_out (s : State) (p : Nat) (pr : Pair) : (s.setPair p pr).out = s.out := rfl
@[simp] theorem State.setPair_agenda (s : State) (p : Nat) (pr : Pair) : (s.setPair p pr).agenda = s.agenda := rfl
@[simp] theorem State.setPair_resp (s : State) (p : Nat) (pr : Pair) : (s.setPair p pr).resp = s.resp := rfl
@[simp] theorem State.setPair_ret (s : State) (p : Nat) (pr : Pair) : (s.setPair p pr).ret = s.ret := rfl

@[simp] theorem State.takeCallback_pairs (s : State) : (s.takeCallback).pairs = s.pairs := rfl
@[simp] theorem State.takeCallback_histLog2 (s : State) : (s.takeCallback).histLog2 = s.histLog2 := rfl
@[simp] theorem State.takeCallback_run (s : State) : (s.takeCallback).run = s.run := rfl
@[simp] theorem State.takeCallback_started (s : State) : (s.takeCallback).started = s.started := rfl
@[simp] theorem State.takeCallback_seqPending (s : State) : (s.takeCallback).seqPending = true := rfl
@[simp] theorem State.takeCallback_midStep (s : State) : (s.takeCallback).midStep = true := rfl
@[simp] theorem State.takeCallback_sampleRate (s : State) : (s.takeCallback).sampleRate = s.sampleRate := rfl
@[simp] theorem State.takeCallback_bpm (s : State) : (s.takeCallback).bpm = s.bpm := rfl
@[simp] theorem State.takeCallback_tickRate (s : State) : (s.takeCallback).tickRate = s.tickRate := rfl
@[simp] theorem State.takeCallback_tickSpeed (s : State) : (s.takeCallback).tickSpeed = s.tickSpeed := rfl
@[simp] theorem State.takeCallback_tickCounter (s : State) : (s.takeCallback).tickCounter = 0 := rfl
@[simp] theorem State.takeCallback_count (s : State) : (s.takeCallback).count = s.count := rfl
@[simp] theorem State.takeCallback_nextTick (s : State) : (s.takeCallback).nextTick = s.nextTick := rfl
@[simp] theorem State.takeCallback_outL (s : State) : (s.takeCallback).outL = s.outL := rfl
@[simp] theorem State.takeCallback_outR (s : State) : (s.takeCallback).outR = s.outR := rfl
@[simp] theorem State.takeCallback_out (s : State) : (s.takeCallback).out = s.out := rfl
@[simp] theorem State.takeCallback_agenda (s : State) : (s.takeCallback).agenda = s.agenda := rfl
@[simp] theorem State.takeCallback_resp (s : State) : (s.takeCallback).resp = s.resp := rfl
@[simp] theorem State.takeCallback_ret (s : State) : (s.takeCallback).ret = s.ret := rfl

@[simp] theorem State.respond_pairs (v : Word) (s : State) : (s.respond v).pairs = s.pairs := rfl
@[simp] theorem State.respond_histLog2 (v : Word) (s : State) : (s.respond v).histLog2 = s.histLog2 := rfl
@[simp] theorem State.respond_run (v : Word) (s : State) : (s.respond v).run = s.run := rfl
@[simp] theorem State.respond_started (v : Word) (s : State) : (s.respond v).started = s.started := rfl
@[simp] theorem State.respond_seqPending (v : Word) (s : State) : (s.respond v).seqPending = s.seqPending := rfl
@[simp] theorem State.respond_midStep (v : Word) (s : State) : (s.respond v).midStep = s.midStep := rfl
@[simp] theorem State.respond_sampleRate (v : Word) (s : State) : (s.respond v).sampleRate = s.sampleRate := rfl
@[simp] theorem State.respond_bpm (v : Word) (s : State) : (s.respond v).bpm = s.bpm := rfl
@[simp] theorem State.respond_tickRate (v : Word) (s : State) : (s.respond v).tickRate = s.tickRate := rfl
@[simp] theorem State.respond_tickSpeed (v : Word) (s : State) : (s.respond v).tickSpeed = s.tickSpeed := rfl
@[simp] theorem State.respond_tickCounter (v : Word) (s : State) : (s.respond v).tickCounter = s.tickCounter := rfl
@[simp] theorem State.respond_count (v : Word) (s : State) : (s.respond v).count = s.count := rfl
@[simp] theorem State.respond_nextTick (v : Word) (s : State) : (s.respond v).nextTick = s.nextTick := rfl
@[simp] theorem State.respond_outL (v : Word) (s : State) : (s.respond v).outL = s.outL := rfl
@[simp] theorem State.respond_outR (v : Word) (s : State) : (s.respond v).outR = s.outR := rfl
@[simp] theorem State.respond_out (v : Word) (s : State) : (s.respond v).out = s.out := rfl
@[simp] theorem State.respond_agenda (v : Word) (s : State) : (s.respond v).agenda = s.agenda := rfl
@[simp] theorem State.respond_resp (v : Word) (s : State) : (s.respond v).resp = s.resp ++ [v] := rfl
@[simp] theorem State.respond_ret (v : Word) (s : State) : (s.respond v).ret = s.ret := rfl

@[simp] theorem State.emit_pairs (l r : Sample) (s : State) : (s.emit l r).pairs = s.pairs := rfl
@[simp] theorem State.emit_histLog2 (l r : Sample) (s : State) : (s.emit l r).histLog2 = s.histLog2 := rfl
@[simp] theorem State.emit_run (l r : Sample) (s : State) : (s.emit l r).run = s.run := rfl
@[simp] theorem State.emit_started (l r : Sample) (s : State) : (s.emit l r).started = s.started := rfl
@[simp] theorem State.emit_seqPending (l r : Sample) (s : State) : (s.emit l r).seqPending = s.seqPending := rfl
@[simp] theorem State.emit_midStep (l r : Sample) (s : State) : (s.emit l r).midStep = s.midStep := rfl
@[simp] theorem State.emit_sampleRate (l r : Sample) (s : State) : (s.emit l r).sampleRate = s.sampleRate := rfl
@[simp] theorem State.emit_bpm (l r : Sample) (s : State) : (s.emit l r).bpm = s.bpm := rfl
@[simp] theorem State.emit_tickRate (l r : Sample) (s : State) : (s.emit l r).tickRate = s.tickRate := rfl
@[simp] theorem State.emit_tickSpeed (l r : Sample) (s : State) : (s.emit l r).tickSpeed = s.tickSpeed := rfl
@[simp] theorem State.emit_tickCounter (l r : Sample) (s : State) : (s.emit l r).tickCounter = s.tickCounter := rfl
@[simp] theorem State.emit_count (l r : Sample) (s : State) : (s.emit l r).count = s.count := rfl
@[simp] theorem State.emit_nextTick (l r : Sample) (s : State) : (s.emit l r).nextTick = s.nextTick := rfl
@[simp] theorem State.emit_outL (l r : Sample) (s : State) : (s.emit l r).outL = s.outL := rfl
@[simp] theorem State.emit_outR (l r : Sample) (s : State) : (s.emit l r).outR = s.outR := rfl
@[simp] theorem State.emit_out (l r : Sample) (s : State) : (s.emit l r).out = s.out ++ [(l, r)] := rfl
@[simp] theorem State.emit_agenda (l r : Sample) (s : State) : (s.emit l r).agenda = s.agenda := rfl
@[simp] theorem State.emit_resp (l r : Sample) (s : State) : (s.emit l r).resp = s.resp := rfl
@[simp] theorem State.emit_ret (l r : Sample) (s : State) : (s.emit l r).ret = s.ret := rfl

@[simp] theorem State.returning_pairs (vs : List Sample) (s : State) : (s.returning vs).pairs = s.pairs := rfl
@[simp] theorem State.returning_histLog2 (vs : List Sample) (s : State) : (s.returning vs).histLog2 = s.histLog2 := rfl
@[simp] theorem State.returning_run (vs : List Sample) (s : State) : (s.returning vs).run = s.run := rfl
@[simp] theorem State.returning_started (vs : List Sample) (s : State) : (s.returning vs).started = s.started := rfl
@[simp] theorem State.returning_seqPending (vs : List Sample) (s : State) : (s.returning vs).seqPending = s.seqPending := rfl
@[simp] theorem State.returning_midStep (vs : List Sample) (s : State) : (s.returning vs).midStep = s.midStep := rfl
@[simp] theorem State.returning_sampleRate (vs : List Sample) (s : State) : (s.returning vs).sampleRate = s.sampleRate := rfl
@[simp] theorem State.returning_bpm (vs : List Sample) (s : State) : (s.returning vs).bpm = s.bpm := rfl
@[simp] theorem State.returning_tickRate (vs : List Sample) (s : State) : (s.returning vs).tickRate = s.tickRate := rfl
@[simp] theorem State.returning_tickSpeed (vs : List Sample) (s : State) : (s.returning vs).tickSpeed = s.tickSpeed := rfl
@[simp] theorem State.returning_tickCounter (vs : List Sample) (s : State) : (s.returning vs).tickCounter = s.tickCounter := rfl
@[simp] theorem State.returning_count (vs : List Sample) (s : State) : (s.returning vs).count = s.count := rfl
@[simp] theorem State.returning_nextTick (vs : List Sample) (s : State) : (s.returning vs).nextTick = s.nextTick := rfl
@[simp] theorem State.returning_outL (vs : List Sample) (s : State) : (s.returning vs).outL = s.outL := rfl
@[simp] theorem State.returning_outR (vs : List Sample) (s : State) : (s.returning vs).outR = s.outR := rfl
@[simp] theorem State.returning_out (vs : List Sample) (s : State) : (s.returning vs).out = s.out := rfl
@[simp] theorem State.returning_agenda (vs : List Sample) (s : State) : (s.returning vs).agenda = s.agenda := rfl
@[simp] theorem State.returning_resp (vs : List Sample) (s : State) : (s.returning vs).resp = s.resp := rfl
@[simp] theorem State.returning_ret (vs : List Sample) (s : State) : (s.returning vs).ret = vs := rfl

@[simp] theorem State.writeRun_pairs (b : Bool) (s : State) : (s.writeRun b).pairs = s.pairs := rfl
@[simp] theorem State.writeRun_histLog2 (b : Bool) (s : State) : (s.writeRun b).histLog2 = s.histLog2 := rfl
@[simp] theorem State.writeRun_run (b : Bool) (s : State) : (s.writeRun b).run = b := rfl
@[simp] theorem State.writeRun_started (b : Bool) (s : State) : (s.writeRun b).started = (s.started || b) := rfl
@[simp] theorem State.writeRun_seqPending (b : Bool) (s : State) : (s.writeRun b).seqPending = s.seqPending := rfl
@[simp] theorem State.writeRun_midStep (b : Bool) (s : State) : (s.writeRun b).midStep = s.midStep := rfl
@[simp] theorem State.writeRun_sampleRate (b : Bool) (s : State) : (s.writeRun b).sampleRate = s.sampleRate := rfl
@[simp] theorem State.writeRun_bpm (b : Bool) (s : State) : (s.writeRun b).bpm = s.bpm := rfl
@[simp] theorem State.writeRun_tickRate (b : Bool) (s : State) : (s.writeRun b).tickRate = s.tickRate := rfl
@[simp] theorem State.writeRun_tickSpeed (b : Bool) (s : State) : (s.writeRun b).tickSpeed = s.tickSpeed := rfl
@[simp] theorem State.writeRun_tickCounter (b : Bool) (s : State) : (s.writeRun b).tickCounter = s.tickCounter := rfl
@[simp] theorem State.writeRun_count (b : Bool) (s : State) : (s.writeRun b).count = s.count := rfl
@[simp] theorem State.writeRun_nextTick (b : Bool) (s : State) : (s.writeRun b).nextTick = s.nextTick := rfl
@[simp] theorem State.writeRun_outL (b : Bool) (s : State) : (s.writeRun b).outL = s.outL := rfl
@[simp] theorem State.writeRun_outR (b : Bool) (s : State) : (s.writeRun b).outR = s.outR := rfl
@[simp] theorem State.writeRun_out (b : Bool) (s : State) : (s.writeRun b).out = s.out := rfl
@[simp] theorem State.writeRun_agenda (b : Bool) (s : State) : (s.writeRun b).agenda = s.agenda := rfl
@[simp] theorem State.writeRun_resp (b : Bool) (s : State) : (s.writeRun b).resp = s.resp := rfl
@[simp] theorem State.writeRun_ret (b : Bool) (s : State) : (s.writeRun b).ret = s.ret := rfl

@[simp] theorem State.mix_pairs (outs : List (Sample × Sample)) (s : State) : (s.mix outs).pairs = s.pairs := rfl
@[simp] theorem State.mix_histLog2 (outs : List (Sample × Sample)) (s : State) : (s.mix outs).histLog2 = s.histLog2 := rfl
@[simp] theorem State.mix_run (outs : List (Sample × Sample)) (s : State) : (s.mix outs).run = s.run := rfl
@[simp] theorem State.mix_started (outs : List (Sample × Sample)) (s : State) : (s.mix outs).started = s.started := rfl
@[simp] theorem State.mix_seqPending (outs : List (Sample × Sample)) (s : State) : (s.mix outs).seqPending = s.seqPending := rfl
@[simp] theorem State.mix_midStep (outs : List (Sample × Sample)) (s : State) : (s.mix outs).midStep = s.midStep := rfl
@[simp] theorem State.mix_sampleRate (outs : List (Sample × Sample)) (s : State) : (s.mix outs).sampleRate = s.sampleRate := rfl
@[simp] theorem State.mix_bpm (outs : List (Sample × Sample)) (s : State) : (s.mix outs).bpm = s.bpm := rfl
@[simp] theorem State.mix_tickRate (outs : List (Sample × Sample)) (s : State) : (s.mix outs).tickRate = s.tickRate := rfl
@[simp] theorem State.mix_tickSpeed (outs : List (Sample × Sample)) (s : State) : (s.mix outs).tickSpeed = s.tickSpeed := rfl
@[simp] theorem State.mix_tickCounter (outs : List (Sample × Sample)) (s : State) : (s.mix outs).tickCounter = s.tickCounter := rfl
@[simp] theorem State.mix_count (outs : List (Sample × Sample)) (s : State) : (s.mix outs).count = s.count := rfl
@[simp] theorem State.mix_nextTick (outs : List (Sample × Sample)) (s : State) : (s.mix outs).nextTick = s.nextTick := rfl
@[simp] theorem State.mix_outL (outs : List (Sample × Sample)) (s : State) : (s.mix outs).outL = mixLeft s.pairs outs := rfl
@[simp] theorem State.mix_outR (outs : List (Sample × Sample)) (s : State) : (s.mix outs).outR = mixRight s.pairs outs := rfl
@[simp] theorem State.mix_out (outs : List (Sample × Sample)) (s : State) : (s.mix outs).out = s.out ++ [(mixLeft s.pairs outs, mixRight s.pairs outs)] := rfl
@[simp] theorem State.mix_agenda (outs : List (Sample × Sample)) (s : State) : (s.mix outs).agenda = s.agenda := rfl
@[simp] theorem State.mix_resp (outs : List (Sample × Sample)) (s : State) : (s.mix outs).resp = s.resp := rfl
@[simp] theorem State.mix_ret (outs : List (Sample × Sample)) (s : State) : (s.mix outs).ret = s.ret := rfl

@[simp] theorem State.tick_pairs (wave : WaveFn) (s : State) : (s.tick wave).pairs = s.pairs.map (Pair.map (Channel.tick wave s)) := rfl
@[simp] theorem State.tick_histLog2 (wave : WaveFn) (s : State) : (s.tick wave).histLog2 = s.histLog2 := rfl
@[simp] theorem State.tick_run (wave : WaveFn) (s : State) : (s.tick wave).run = s.run := rfl
@[simp] theorem State.tick_started (wave : WaveFn) (s : State) : (s.tick wave).started = s.started := rfl
@[simp] theorem State.tick_seqPending (wave : WaveFn) (s : State) : (s.tick wave).seqPending = s.seqPending := rfl
@[simp] theorem State.tick_midStep (wave : WaveFn) (s : State) : (s.tick wave).midStep = s.midStep := rfl
@[simp] theorem State.tick_sampleRate (wave : WaveFn) (s : State) : (s.tick wave).sampleRate = s.sampleRate := rfl
@[simp] theorem State.tick_bpm (wave : WaveFn) (s : State) : (s.tick wave).bpm = s.bpm := rfl
@[simp] theorem State.tick_tickRate (wave : WaveFn) (s : State) : (s.tick wave).tickRate = s.tickRate := rfl
@[simp] theorem State.tick_tickSpeed (wave : WaveFn) (s : State) : (s.tick wave).tickSpeed = s.tickSpeed := rfl
@[simp] theorem State.tick_tickCounter (wave : WaveFn) (s : State) : (s.tick wave).tickCounter = toWord (u32 s.tickCounter + 1) := rfl
@[simp] theorem State.tick_count (wave : WaveFn) (s : State) : (s.tick wave).count = s.count := rfl
@[simp] theorem State.tick_nextTick (wave : WaveFn) (s : State) : (s.tick wave).nextTick = toCount (s.count.toNat + s.tickInterval) := rfl
@[simp] theorem State.tick_outL (wave : WaveFn) (s : State) : (s.tick wave).outL = s.outL := rfl
@[simp] theorem State.tick_outR (wave : WaveFn) (s : State) : (s.tick wave).outR = s.outR := rfl
@[simp] theorem State.tick_out (wave : WaveFn) (s : State) : (s.tick wave).out = s.out := rfl
@[simp] theorem State.tick_agenda (wave : WaveFn) (s : State) : (s.tick wave).agenda = s.agenda := rfl
@[simp] theorem State.tick_resp (wave : WaveFn) (s : State) : (s.tick wave).resp = s.resp := rfl
@[simp] theorem State.tick_ret (wave : WaveFn) (s : State) : (s.tick wave).ret = s.ret := rfl

@[simp] theorem State.phaseB_histLog2 (wave : WaveFn) (s : State) : (s.phaseB wave).histLog2 = s.histLog2 := rfl
@[simp] theorem State.phaseB_run (wave : WaveFn) (s : State) : (s.phaseB wave).run = s.run := rfl
@[simp] theorem State.phaseB_started (wave : WaveFn) (s : State) : (s.phaseB wave).started = s.started := rfl
@[simp] theorem State.phaseB_seqPending (wave : WaveFn) (s : State) : (s.phaseB wave).seqPending = s.seqPending := rfl
@[simp] theorem State.phaseB_midStep (wave : WaveFn) (s : State) : (s.phaseB wave).midStep = false := rfl
@[simp] theorem State.phaseB_sampleRate (wave : WaveFn) (s : State) : (s.phaseB wave).sampleRate = s.sampleRate := rfl
@[simp] theorem State.phaseB_bpm (wave : WaveFn) (s : State) : (s.phaseB wave).bpm = s.bpm := rfl
@[simp] theorem State.phaseB_tickRate (wave : WaveFn) (s : State) : (s.phaseB wave).tickRate = s.tickRate := rfl
@[simp] theorem State.phaseB_tickSpeed (wave : WaveFn) (s : State) : (s.phaseB wave).tickSpeed = s.tickSpeed := rfl
@[simp] theorem State.phaseB_tickCounter (wave : WaveFn) (s : State) : (s.phaseB wave).tickCounter = s.tickCounter := rfl
@[simp] theorem State.phaseB_count (wave : WaveFn) (s : State) : (s.phaseB wave).count = toCount (s.count.toNat + 1) := rfl
@[simp] theorem State.phaseB_nextTick (wave : WaveFn) (s : State) : (s.phaseB wave).nextTick = s.nextTick := rfl
@[simp] theorem State.phaseB_agenda (wave : WaveFn) (s : State) : (s.phaseB wave).agenda = s.agenda := rfl
@[simp] theorem State.phaseB_resp (wave : WaveFn) (s : State) : (s.phaseB wave).resp = s.resp := rfl
@[simp] theorem State.phaseB_ret (wave : WaveFn) (s : State) : (s.phaseB wave).ret = s.ret := rfl

@[simp] theorem State.resetCore_pairs (s : State) : (s.resetCore).pairs = List.replicate s.numPairs ⟨Channel.reset, Channel.reset⟩ := rfl
@[simp] theorem State.resetCore_histLog2 (s : State) : (s.resetCore).histLog2 = s.histLog2 := rfl
@[simp] theorem State.resetCore_run (s : State) : (s.resetCore).run = false := rfl
@[simp] theorem State.resetCore_started (s : State) : (s.resetCore).started = false := rfl
@[simp] theorem State.resetCore_seqPending (s : State) : (s.resetCore).seqPending = false := rfl
@[simp] theorem State.resetCore_midStep (s : State) : (s.resetCore).midStep = false := rfl
@[simp] theorem State.resetCore_sampleRate (s : State) : (s.resetCore).sampleRate = 48000 := rfl
@[simp] theorem State.resetCore_bpm (s : State) : (s.resetCore).bpm = 120 := rfl
@[simp] theorem State.resetCore_tickRate (s : State) : (s.resetCore).tickRate = 24 := rfl
@[simp] theorem State.resetCore_tickSpeed (s : State) : (s.resetCore).tickSpeed = 6 := rfl
@[simp] theorem State.resetCore_tickCounter (s : State) : (s.resetCore).tickCounter = 0 := rfl
@[simp] theorem State.resetCore_count (s : State) : (s.resetCore).count = 0 := rfl
@[simp] theorem State.resetCore_nextTick (s : State) : (s.resetCore).nextTick = 0 := rfl
@[simp] theorem State.resetCore_outL (s : State) : (s.resetCore).outL = 0 := rfl
@[simp] theorem State.resetCore_outR (s : State) : (s.resetCore).outR = 0 := rfl
@[simp] theorem State.resetCore_out (s : State) : (s.resetCore).out = [] := rfl
@[simp] theorem State.resetCore_agenda (s : State) : (s.resetCore).agenda = s.agenda := rfl
@[simp] theorem State.resetCore_resp (s : State) : (s.resetCore).resp = s.resp := rfl
@[simp] theorem State.resetCore_ret (s : State) : (s.resetCore).ret = s.ret := rfl

@[simp] theorem State.returnFromCallback_pairs (s : State) : (s.returnFromCallback).pairs = s.pairs := by
  cases h : s.seqPending <;> simp [State.returnFromCallback, h]
@[simp] theorem State.returnFromCallback_histLog2 (s : State) : (s.returnFromCallback).histLog2 = s.histLog2 := by
  cases h : s.seqPending <;> simp [State.returnFromCallback, h]
@[simp] theorem State.returnFromCallback_run (s : State) : (s.returnFromCallback).run = s.run := by
  cases h : s.seqPending <;> simp [State.returnFromCallback, h]
@[simp] theorem State.returnFromCallback_started (s : State) : (s.returnFromCallback).started = s.started := by
  cases h : s.seqPending <;> simp [State.returnFromCallback, h]
@[simp] theorem State.returnFromCallback_seqPending (s : State) : (s.returnFromCallback).seqPending = false := by
  cases h : s.seqPending <;> simp [State.returnFromCallback, h]
@[simp] theorem State.returnFromCallback_midStep (s : State) : (s.returnFromCallback).midStep = s.midStep := by
  cases h : s.seqPending <;> simp [State.returnFromCallback, h]
@[simp] theorem State.returnFromCallback_sampleRate (s : State) : (s.returnFromCallback).sampleRate = s.sampleRate := by
  cases h : s.seqPending <;> simp [State.returnFromCallback, h]
@[simp] theorem State.returnFromCallback_bpm (s : State) : (s.returnFromCallback).bpm = s.bpm := by
  cases h : s.seqPending <;> simp [State.returnFromCallback, h]
@[simp] theorem State.returnFromCallback_tickRate (s : State) : (s.returnFromCallback).tickRate = s.tickRate := by
  cases h : s.seqPending <;> simp [State.returnFromCallback, h]
@[simp] theorem State.returnFromCallback_tickSpeed (s : State) : (s.returnFromCallback).tickSpeed = s.tickSpeed := by
  cases h : s.seqPending <;> simp [State.returnFromCallback, h]
@[simp] theorem State.returnFromCallback_tickCounter (s : State) : (s.returnFromCallback).tickCounter = s.tickCounter := by
  cases h : s.seqPending <;> simp [State.returnFromCallback, h]
@[simp] theorem State.returnFromCallback_count (s : State) : (s.returnFromCallback).count = s.count := by
  cases h : s.seqPending <;> simp [State.returnFromCallback, h]
@[simp] theorem State.returnFromCallback_nextTick (s : State) : (s.returnFromCallback).nextTick = s.nextTick := by
  cases h : s.seqPending <;> simp [State.returnFromCallback, h]
@[simp] theorem State.returnFromCallback_outL (s : State) : (s.returnFromCallback).outL = s.outL := by
  cases h : s.seqPending <;> simp [State.returnFromCallback, h]
@[simp] theorem State.returnFromCallback_outR (s : State) : (s.returnFromCallback).outR = s.outR := by
  cases h : s.seqPending <;> simp [State.returnFromCallback, h]
@[simp] theorem State.returnFromCallback_out (s : State) : (s.returnFromCallback).out = s.out := by
  cases h : s.seqPending <;> simp [State.returnFromCallback, h]
@[simp] theorem State.returnFromCallback_agenda (s : State) : (s.returnFromCallback).agenda = s.agenda := by
  cases h : s.seqPending <;> simp [State.returnFromCallback, h]
@[simp] theorem State.returnFromCallback_resp (s : State) : (s.returnFromCallback).resp = s.resp := by
  cases h : s.seqPending <;> simp [State.returnFromCallback, h]
@[simp] theorem State.returnFromCallback_ret (s : State) : (s.returnFromCallback).ret = s.ret := by
  cases h : s.seqPending <;> simp [State.returnFromCallback, h]

@[simp] theorem State.writeChanReg_histLog2 (s : State) (c : Nat) (r : ChReg) (d : Word) : (s.writeChanReg c r d).histLog2 = s.histLog2 := by
  unfold State.writeChanReg; split <;> rfl
@[simp] theorem State.writeChanReg_run (s : State) (c : Nat) (r : ChReg) (d : Word) : (s.writeChanReg c r d).run = s.run := by
  unfold State.writeChanReg; split <;> rfl
@[simp] theorem State.writeChanReg_started (s : State) (c : Nat) (r : ChReg) (d : Word) : (s.writeChanReg c r d).started = s.started := by
  unfold State.writeChanReg; split <;> rfl
@[simp] theorem State.writeChanReg_seqPending (s : State) (c : Nat) (r : ChReg) (d : Word) : (s.writeChanReg c r d).seqPending = s.seqPending := by
  unfold State.writeChanReg; split <;> rfl
@[simp] theorem State.writeChanReg_midStep (s : State) (c : Nat) (r : ChReg) (d : Word) : (s.writeChanReg c r d).midStep = s.midStep := by
  unfold State.writeChanReg; split <;> rfl
@[simp] theorem State.writeChanReg_sampleRate (s : State) (c : Nat) (r : ChReg) (d : Word) : (s.writeChanReg c r d).sampleRate = s.sampleRate := by
  unfold State.writeChanReg; split <;> rfl
@[simp] theorem State.writeChanReg_bpm (s : State) (c : Nat) (r : ChReg) (d : Word) : (s.writeChanReg c r d).bpm = s.bpm := by
  unfold State.writeChanReg; split <;> rfl
@[simp] theorem State.writeChanReg_tickRate (s : State) (c : Nat) (r : ChReg) (d : Word) : (s.writeChanReg c r d).tickRate = s.tickRate := by
  unfold State.writeChanReg; split <;> rfl
@[simp] theorem State.writeChanReg_tickSpeed (s : State) (c : Nat) (r : ChReg) (d : Word) : (s.writeChanReg c r d).tickSpeed = s.tickSpeed := by
  unfold State.writeChanReg; split <;> rfl
@[simp] theorem State.writeChanReg_tickCounter (s : State) (c : Nat) (r : ChReg) (d : Word) : (s.writeChanReg c r d).tickCounter = s.tickCounter := by
  unfold State.writeChanReg; split <;> rfl
@[simp] theorem State.writeChanReg_count (s : State) (c : Nat) (r : ChReg) (d : Word) : (s.writeChanReg c r d).count = s.count := by
  unfold State.writeChanReg; split <;> rfl
@[simp] theorem State.writeChanReg_nextTick (s : State) (c : Nat) (r : ChReg) (d : Word) : (s.writeChanReg c r d).nextTick = s.nextTick := by
  unfold State.writeChanReg; split <;> rfl
@[simp] theorem State.writeChanReg_outL (s : State) (c : Nat) (r : ChReg) (d : Word) : (s.writeChanReg c r d).outL = s.outL := by
  unfold State.writeChanReg; split <;> rfl
@[simp] theorem State.writeChanReg_outR (s : State) (c : Nat) (r : ChReg) (d : Word) : (s.writeChanReg c r d).outR = s.outR := by
  unfold State.writeChanReg; split <;> rfl
@[simp] theorem State.writeChanReg_out (s : State) (c : Nat) (r : ChReg) (d : Word) : (s.writeChanReg c r d).out = s.out := by
  unfold State.writeChanReg; split <;> rfl
@[simp] theorem State.writeChanReg_agenda (s : State) (c : Nat) (r : ChReg) (d : Word) : (s.writeChanReg c r d).agenda = s.agenda := by
  unfold State.writeChanReg; split <;> rfl
@[simp] theorem State.writeChanReg_resp (s : State) (c : Nat) (r : ChReg) (d : Word) : (s.writeChanReg c r d).resp = s.resp := by
  unfold State.writeChanReg; split <;> rfl
@[simp] theorem State.writeChanReg_ret (s : State) (c : Nat) (r : ChReg) (d : Word) : (s.writeChanReg c r d).ret = s.ret := by
  unfold State.writeChanReg; split <;> rfl

@[simp] theorem State.tickIfDue_histLog2 (wave : WaveFn) (s : State) : (s.tickIfDue wave).histLog2 = s.histLog2 := by
  unfold State.tickIfDue; split <;> rfl
@[simp] theorem State.tickIfDue_run (wave : WaveFn) (s : State) : (s.tickIfDue wave).run = s.run := by
  unfold State.tickIfDue; split <;> rfl
@[simp] theorem State.tickIfDue_started (wave : WaveFn) (s : State) : (s.tickIfDue wave).started = s.started := by
  unfold State.tickIfDue; split <;> rfl
@[simp] theorem State.tickIfDue_seqPending (wave : WaveFn) (s : State) : (s.tickIfDue wave).seqPending = s.seqPending := by
  unfold State.tickIfDue; split <;> rfl
@[simp] theorem State.tickIfDue_midStep (wave : WaveFn) (s : State) : (s.tickIfDue wave).midStep = s.midStep := by
  unfold State.tickIfDue; split <;> rfl
@[simp] theorem State.tickIfDue_sampleRate (wave : WaveFn) (s : State) : (s.tickIfDue wave).sampleRate = s.sampleRate := by
  unfold State.tickIfDue; split <;> rfl
@[simp] theorem State.tickIfDue_bpm (wave : WaveFn) (s : State) : (s.tickIfDue wave).bpm = s.bpm := by
  unfold State.tickIfDue; split <;> rfl
@[simp] theorem State.tickIfDue_tickRate (wave : WaveFn) (s : State) : (s.tickIfDue wave).tickRate = s.tickRate := by
  unfold State.tickIfDue; split <;> rfl
@[simp] theorem State.tickIfDue_tickSpeed (wave : WaveFn) (s : State) : (s.tickIfDue wave).tickSpeed = s.tickSpeed := by
  unfold State.tickIfDue; split <;> rfl
@[simp] theorem State.tickIfDue_count (wave : WaveFn) (s : State) : (s.tickIfDue wave).count = s.count := by
  unfold State.tickIfDue; split <;> rfl
@[simp] theorem State.tickIfDue_outL (wave : WaveFn) (s : State) : (s.tickIfDue wave).outL = s.outL := by
  unfold State.tickIfDue; split <;> rfl
@[simp] theorem State.tickIfDue_outR (wave : WaveFn) (s : State) : (s.tickIfDue wave).outR = s.outR := by
  unfold State.tickIfDue; split <;> rfl
@[simp] theorem State.tickIfDue_out (wave : WaveFn) (s : State) : (s.tickIfDue wave).out = s.out := by
  unfold State.tickIfDue; split <;> rfl
@[simp] theorem State.tickIfDue_agenda (wave : WaveFn) (s : State) : (s.tickIfDue wave).agenda = s.agenda := by
  unfold State.tickIfDue; split <;> rfl
@[simp] theorem State.tickIfDue_resp (wave : WaveFn) (s : State) : (s.tickIfDue wave).resp = s.resp := by
  unfold State.tickIfDue; split <;> rfl
@[simp] theorem State.tickIfDue_ret (wave : WaveFn) (s : State) : (s.tickIfDue wave).ret = s.ret := by
  unfold State.tickIfDue; split <;> rfl

/-! ### The output stream in bytes (20_memory.md R64) -/

/-- The two bytes of a sample give the sample back. -/
theorem append_of_bytesOfSample {y : Sample} {lo hi : Byte} (h : bytesOfSample y = [lo, hi]) : hi ++ lo = y := by
  obtain ⟨rfl, rfl⟩ : y.extractLsb' 0 8 = lo ∧ y.extractLsb' 8 8 = hi := by simpa [bytesOfSample] using h
  ext i hi
  rw [← BitVec.getLsbD_eq_getElem, ← BitVec.getLsbD_eq_getElem, BitVec.getLsbD_append]
  by_cases h8 : i < 8
  · simp [h8]
  · simp [h8, show i - 8 < 8 by omega, show 8 + (i - 8) = i by omega]

/-- An emitted pair adds four bytes to the stream. -/
@[simp] theorem State.outBytes_emit (l r : Sample) (s : State) :
    (s.emit l r).outBytes = s.outBytes ++ (bytesOfSample l ++ bytesOfSample r) := by
  simp [State.outBytes, State.emit]

end Sys2Proof.Machine
end

