-- ==== Sys2Proof/Laws/Channel.lean ====
section
/-! SUPPORT. The laws of the channel operations: what each leaves unchanged, the ranges of the narrowing functions, and that each keeps a channel safe. -/

namespace Sys2Proof.Machine

/-! ### Narrowing (00_scope.md R13) -/

theorem sat16_range (v : Int) : -32768 ≤ sat16 v ∧ sat16 v ≤ 32767 := by unfold sat16; omega

theorem sat32_range (v : Int) : -2147483648 ≤ sat32 v ∧ sat32 v ≤ 2147483647 := by unfold sat32; omega

theorem toInt_toSample {v : Int} (h : -32768 ≤ v) (h' : v ≤ 32767) : (toSample v).toInt = v := by
  rw [toSample, BitVec.toInt_ofInt]
  exact Int.bmod_eq_of_le (by omega) (by omega)

@[simp] theorem toInt_toSample_sat16 (v : Int) : (toSample (sat16 v)).toInt = sat16 v :=
  toInt_toSample (sat16_range v).1 (sat16_range v).2

theorem toInt_toWord {v : Int} (h : -2147483648 ≤ v) (h' : v ≤ 2147483647) : (toWord v).toInt = v := by
  rw [toWord, BitVec.toInt_ofInt]
  exact Int.bmod_eq_of_le (by omega) (by omega)

theorem toNat_toWord {v : Int} (h : 0 ≤ v) (h' : v < 4294967296) : (toWord v).toNat = v.toNat := by
  rw [toWord, BitVec.toNat_ofInt]
  congr 1
  exact Int.emod_eq_of_lt h (by omega)

/-- In range the free value plays no part. -/
theorem s32Or_of_range {free : Word} {v : Int} (h : -2147483648 ≤ v) (h' : v ≤ 2147483647) : s32Or free v = toWord v :=
  if_pos ⟨h, h'⟩

theorem u32_range (w : Word) : 0 ≤ u32 w ∧ u32 w < 4294967296 := by
  have := w.isLt
  unfold u32
  omega

/-! ### Frames: the fields an operation leaves unchanged -/

@[simp] theorem Channel.slideNote_frame (ch : Channel) :
    (ch.slideNote).waveSel = ch.waveSel ∧ (ch.slideNote).mode = ch.mode ∧ (ch.slideNote).slide = ch.slide ∧
    (ch.slideNote).preVol = ch.preVol ∧ (ch.slideNote).postVol = ch.postVol ∧ (ch.slideNote).fade = ch.fade ∧
    (ch.slideNote).length = ch.length ∧ (ch.slideNote).phase = ch.phase ∧ (ch.slideNote).period = ch.period ∧
    (ch.slideNote).delayReq = ch.delayReq ∧ (ch.slideNote).delay = ch.delay ∧ (ch.slideNote).filterW = ch.filterW ∧
    (ch.slideNote).avg = ch.avg ∧ (ch.slideNote).cursor = ch.cursor ∧ (ch.slideNote).dry = ch.dry ∧
    (ch.slideNote).wet = ch.wet ∧ (ch.slideNote).feedback = ch.feedback ∧ (ch.slideNote).attack = ch.attack ∧
    (ch.slideNote).decay = ch.decay ∧ (ch.slideNote).peak = ch.peak ∧ (ch.slideNote).sustain = ch.sustain ∧
    (ch.slideNote).release = ch.release ∧ (ch.slideNote).envPos = ch.envPos ∧ (ch.slideNote).noteOn = ch.noteOn ∧
    (ch.slideNote).tremDepth = ch.tremDepth ∧ (ch.slideNote).tremSel = ch.tremSel ∧ (ch.slideNote).tremRate = ch.tremRate ∧
    (ch.slideNote).tremPhase = ch.tremPhase ∧ (ch.slideNote).tremLevel = ch.tremLevel ∧ (ch.slideNote).vibDepth = ch.vibDepth ∧
    (ch.slideNote).vibSel = ch.vibSel ∧ (ch.slideNote).vibRate = ch.vibRate ∧ (ch.slideNote).vibPhase = ch.vibPhase ∧
    (ch.slideNote).vibLevel = ch.vibLevel ∧ (ch.slideNote).hist = ch.hist :=
  ⟨rfl, rfl, rfl, rfl, rfl, rfl, rfl, rfl, rfl, rfl, rfl, rfl, rfl, rfl, rfl, rfl, rfl, rfl, rfl, rfl, rfl, rfl, rfl, rfl, rfl, rfl, rfl, rfl, rfl, rfl, rfl, rfl, rfl, rfl, rfl⟩

@[simp] theorem Channel.fadeVol_frame (ch : Channel) :
    (ch.fadeVol).waveSel = ch.waveSel ∧ (ch.fadeVol).mode = ch.mode ∧ (ch.fadeVol).note = ch.note ∧
    (ch.fadeVol).slide = ch.slide ∧ (ch.fadeVol).preVol = ch.preVol ∧ (ch.fadeVol).fade = ch.fade ∧
    (ch.fadeVol).length = ch.length ∧ (ch.fadeVol).phase = ch.phase ∧ (ch.fadeVol).period = ch.period ∧
    (ch.fadeVol).delayReq = ch.delayReq ∧ (ch.fadeVol).delay = ch.delay ∧ (ch.fadeVol).filterW = ch.filterW ∧
    (ch.fadeVol).avg = ch.avg ∧ (ch.fadeVol).cursor = ch.cursor ∧ (ch.fadeVol).dry = ch.dry ∧
    (ch.fadeVol).wet = ch.wet ∧ (ch.fadeVol).feedback = ch.feedback ∧ (ch.fadeVol).attack = ch.attack ∧
    (ch.fadeVol).decay = ch.decay ∧ (ch.fadeVol).peak = ch.peak ∧ (ch.fadeVol).sustain = ch.sustain ∧
    (ch.fadeVol).release = ch.release ∧ (ch.fadeVol).envPos = ch.envPos ∧ (ch.fadeVol).noteOn = ch.noteOn ∧
    (ch.fadeVol).tremDepth = ch.tremDepth ∧ (ch.fadeVol).tremSel = ch.tremSel ∧ (ch.fadeVol).tremRate = ch.tremRate ∧
    (ch.fadeVol).tremPhase = ch.tremPhase ∧ (ch.fadeVol).tremLevel = ch.tremLevel ∧ (ch.fadeVol).vibDepth = ch.vibDepth ∧
    (ch.fadeVol).vibSel = ch.vibSel ∧ (ch.fadeVol).vibRate = ch.vibRate ∧ (ch.fadeVol).vibPhase = ch.vibPhase ∧
    (ch.fadeVol).vibLevel = ch.vibLevel ∧ (ch.fadeVol).hist = ch.hist :=
  ⟨rfl, rfl, rfl, rfl, rfl, rfl, rfl, rfl, rfl, rfl, rfl, rfl, rfl, rfl, rfl, rfl, rfl, rfl, rfl, rfl, rfl, rfl, rfl, rfl, rfl, rfl, rfl, rfl, rfl, rfl, rfl, rfl, rfl, rfl, rfl⟩

@[simp] theorem Channel.envRelease_frame (ch : Channel) :
    (ch.envRelease).waveSel = ch.waveSel ∧ (ch.envRelease).mode = ch.mode ∧ (ch.envRelease).note = ch.note ∧
    (ch.envRelease).slide = ch.slide ∧ (ch.envRelease).postVol = ch.postVol ∧ (ch.envRelease).fade = ch.fade ∧
    (ch.envRelease).length = ch.length ∧ (ch.envRelease).phase = ch.phase ∧ (ch.envRelease).period = ch.period ∧
    (ch.envRelease).delayReq = ch.delayReq ∧ (ch.envRelease).delay = ch.delay ∧ (ch.envRelease).filterW = ch.filterW ∧
    (ch.envRelease).avg = ch.avg ∧ (ch.envRelease).cursor = ch.cursor ∧ (ch.envRelease).dry = ch.dry ∧
    (ch.envRelease).wet = ch.wet ∧ (ch.envRelease).feedback = ch.feedback ∧ (ch.envRelease).attack = ch.attack ∧
    (ch.envRelease).decay = ch.decay ∧ (ch.envRelease).peak = ch.peak ∧ (ch.envRelease).sustain = ch.sustain ∧
    (ch.envRelease).release = ch.release ∧ (ch.envRelease).envPos = ch.envPos ∧ (ch.envRelease).noteOn = ch.noteOn ∧
    (ch.envRelease).tremDepth = ch.tremDepth ∧ (ch.envRelease).tremSel = ch.tremSel ∧ (ch.envRelease).tremRate = ch.tremRate ∧
    (ch.envRelease).tremPhase = ch.tremPhase ∧ (ch.envRelease).tremLevel = ch.tremLevel ∧ (ch.envRelease).vibDepth = ch.vibDepth ∧
    (ch.envRelease).vibSel = ch.vibSel ∧ (ch.envRelease).vibRate = ch.vibRate ∧ (ch.envRelease).vibPhase = ch.vibPhase ∧
    (ch.envRelease).vibLevel = ch.vibLevel ∧ (ch.envRelease).hist = ch.hist :=
  ⟨rfl, rfl, rfl, rfl, rfl, rfl, rfl, rfl, rfl, rfl, rfl, rfl, rfl, rfl, rfl, rfl, rfl, rfl, rfl, rfl, rfl, rfl, rfl, rfl, rfl, rfl, rfl, rfl, rfl, rfl, rfl, rfl, rfl, rfl, rfl⟩

@[simp] theorem Channel.envAttack_frame (ch : Channel) :
    (ch.envAttack).waveSel = ch.waveSel ∧ (ch.envAttack).mode = ch.mode ∧ (ch.envAttack).note = ch.note ∧
    (ch.envAttack).slide = ch.slide ∧ (ch.envAttack).postVol = ch.postVol ∧ (ch.envAttack).fade = ch.fade ∧
    (ch.envAttack).length = ch.length ∧ (ch.envAttack).phase = ch.phase ∧ (ch.envAttack).period = ch.period ∧
    (ch.envAttack).delayReq = ch.delayReq ∧ (ch.envAttack).delay = ch.delay ∧ (ch.envAttack).filterW = ch.filterW ∧
    (ch.envAttack).avg = ch.avg ∧ (ch.envAttack).cursor = ch.cursor ∧ (ch.envAttack).dry = ch.dry ∧
    (ch.envAttack).wet = ch.wet ∧ (ch.envAttack).feedback = ch.feedback ∧ (ch.envAttack).attack = ch.attack ∧
    (ch.envAttack).decay = ch.decay ∧ (ch.envAttack).peak = ch.peak ∧ (ch.envAttack).sustain = ch.sustain ∧
    (ch.envAttack).release = ch.release ∧ (ch.envAttack).envPos = ch.envPos ∧ (ch.envAttack).noteOn = ch.noteOn ∧
    (ch.envAttack).tremDepth = ch.tremDepth ∧ (ch.envAttack).tremSel = ch.tremSel ∧ (ch.envAttack).tremRate = ch.tremRate ∧
    (ch.envAttack).tremPhase = ch.tremPhase ∧ (ch.envAttack).tremLevel = ch.tremLevel ∧ (ch.envAttack).vibDepth = ch.vibDepth ∧
    (ch.envAttack).vibSel = ch.vibSel ∧ (ch.envAttack).vibRate = ch.vibRate ∧ (ch.envAttack).vibPhase = ch.vibPhase ∧
    (ch.envAttack).vibLevel = ch.vibLevel ∧ (ch.envAttack).hist = ch.hist :=
  ⟨rfl, rfl, rfl, rfl, rfl, rfl, rfl, rfl, rfl, rfl, rfl, rfl, rfl, rfl, rfl, rfl, rfl, rfl, rfl, rfl, rfl, rfl, rfl, rfl, rfl, rfl, rfl, rfl, rfl, rfl, rfl, rfl, rfl, rfl, rfl⟩

@[simp] theorem Channel.envDecay_frame (ch : Channel) :
    (ch.envDecay).waveSel = ch.waveSel ∧ (ch.envDecay).mode = ch.mode ∧ (ch.envDecay).note = ch.note ∧
    (ch.envDecay).slide = ch.slide ∧ (ch.envDecay).postVol = ch.postVol ∧ (ch.envDecay).fade = ch.fade ∧
    (ch.envDecay).length = ch.length ∧ (ch.envDecay).phase = ch.phase ∧ (ch.envDecay).period = ch.period ∧
    (ch.envDecay).delayReq = ch.delayReq ∧ (ch.envDecay).delay = ch.delay ∧ (ch.envDecay).filterW = ch.filterW ∧
    (ch.envDecay).avg = ch.avg ∧ (ch.envDecay).cursor = ch.cursor ∧ (ch.envDecay).dry = ch.dry ∧
    (ch.envDecay).wet = ch.wet ∧ (ch.envDecay).feedback = ch.feedback ∧ (ch.envDecay).attack = ch.attack ∧
    (ch.envDecay).decay = ch.decay ∧ (ch.envDecay).peak = ch.peak ∧ (ch.envDecay).sustain = ch.sustain ∧
    (ch.envDecay).release = ch.release ∧ (ch.envDecay).envPos = ch.envPos ∧ (ch.envDecay).noteOn = ch.noteOn ∧
    (ch.envDecay).tremDepth = ch.tremDepth ∧ (ch.envDecay).tremSel = ch.tremSel ∧ (ch.envDecay).tremRate = ch.tremRate ∧
    (ch.envDecay).tremPhase = ch.tremPhase ∧ (ch.envDecay).tremLevel = ch.tremLevel ∧ (ch.envDecay).vibDepth = ch.vibDepth ∧
    (ch.envDecay).vibSel = ch.vibSel ∧ (ch.envDecay).vibRate = ch.vibRate ∧ (ch.envDecay).vibPhase = ch.vibPhase ∧
    (ch.envDecay).vibLevel = ch.vibLevel ∧ (ch.envDecay).hist = ch.hist :=
  ⟨rfl, rfl, rfl, rfl, rfl, rfl, rfl, rfl, rfl, rfl, rfl, rfl, rfl, rfl, rfl, rfl, rfl, rfl, rfl, rfl, rfl, rfl, rfl, rfl, rfl, rfl, rfl, rfl, rfl, rfl, rfl, rfl, rfl, rfl, rfl⟩

@[simp] theorem Channel.envAdvance_frame (ch : Channel) :
    (ch.envAdvance).waveSel = ch.waveSel ∧ (ch.envAdvance).mode = ch.mode ∧ (ch.envAdvance).note = ch.note ∧
    (ch.envAdvance).slide = ch.slide ∧ (ch.envAdvance).preVol = ch.preVol ∧ (ch.envAdvance).postVol = ch.postVol ∧
    (ch.envAdvance).fade = ch.fade ∧ (ch.envAdvance).length = ch.length ∧ (ch.envAdvance).phase = ch.phase ∧
    (ch.envAdvance).period = ch.period ∧ (ch.envAdvance).delayReq = ch.delayReq ∧ (ch.envAdvance).delay = ch.delay ∧
    (ch.envAdvance).filterW = ch.filterW ∧ (ch.envAdvance).avg = ch.avg ∧ (ch.envAdvance).cursor = ch.cursor ∧
    (ch.envAdvance).dry = ch.dry ∧ (ch.envAdvance).wet = ch.wet ∧ (ch.envAdvance).feedback = ch.feedback ∧
    (ch.envAdvance).attack = ch.attack ∧ (ch.envAdvance).decay = ch.decay ∧ (ch.envAdvance).peak = ch.peak ∧
    (ch.envAdvance).sustain = ch.sustain ∧ (ch.envAdvance).release = ch.release ∧ (ch.envAdvance).noteOn = ch.noteOn ∧
    (ch.envAdvance).tremDepth = ch.tremDepth ∧ (ch.envAdvance).tremSel = ch.tremSel ∧ (ch.envAdvance).tremRate = ch.tremRate ∧
    (ch.envAdvance).tremPhase = ch.tremPhase ∧ (ch.envAdvance).tremLevel = ch.tremLevel ∧ (ch.envAdvance).vibDepth = ch.vibDepth ∧
    (ch.envAdvance).vibSel = ch.vibSel ∧ (ch.envAdvance).vibRate = ch.vibRate ∧ (ch.envAdvance).vibPhase = ch.vibPhase ∧
    (ch.envAdvance).vibLevel = ch.vibLevel ∧ (ch.envAdvance).hist = ch.hist :=
  ⟨rfl, rfl, rfl, rfl, rfl, rfl, rfl, rfl, rfl, rfl, rfl, rfl, rfl, rfl, rfl, rfl, rfl, rfl, rfl, rfl, rfl, rfl, rfl, rfl, rfl, rfl, rfl, rfl, rfl, rfl, rfl, rfl, rfl, rfl, rfl⟩

@[simp] theorem Channel.lfoTrem_frame (wave : WaveFn) (ch : Channel) :
    (ch.lfoTrem wave).waveSel = ch.waveSel ∧ (ch.lfoTrem wave).mode = ch.mode ∧ (ch.lfoTrem wave).note = ch.note ∧
    (ch.lfoTrem wave).slide = ch.slide ∧ (ch.lfoTrem wave).preVol = ch.preVol ∧ (ch.lfoTrem wave).postVol = ch.postVol ∧
    (ch.lfoTrem wave).fade = ch.fade ∧ (ch.lfoTrem wave).length = ch.length ∧ (ch.lfoTrem wave).phase = ch.phase ∧
    (ch.lfoTrem wave).period = ch.period ∧ (ch.lfoTrem wave).delayReq = ch.delayReq ∧ (ch.lfoTrem wave).delay = ch.delay ∧
    (ch.lfoTrem wave).filterW = ch.filterW ∧ (ch.lfoTrem wave).avg = ch.avg ∧ (ch.lfoTrem wave).cursor = ch.cursor ∧
    (ch.lfoTrem wave).dry = ch.dry ∧ (ch.lfoTrem wave).wet = ch.wet ∧ (ch.lfoTrem wave).feedback = ch.feedback ∧
    (ch.lfoTrem wave).attack = ch.attack ∧ (ch.lfoTrem wave).decay = ch.decay ∧ (ch.lfoTrem wave).peak = ch.peak ∧
    (ch.lfoTrem wave).sustain = ch.sustain ∧ (ch.lfoTrem wave).release = ch.release ∧ (ch.lfoTrem wave).envPos = ch.envPos ∧
    (ch.lfoTrem wave).noteOn = ch.noteOn ∧ (ch.lfoTrem wave).tremDepth = ch.tremDepth ∧ (ch.lfoTrem wave).tremSel = ch.tremSel ∧
    (ch.lfoTrem wave).tremRate = ch.tremRate ∧ (ch.lfoTrem wave).vibDepth = ch.vibDepth ∧ (ch.lfoTrem wave).vibSel = ch.vibSel ∧
    (ch.lfoTrem wave).vibRate = ch.vibRate ∧ (ch.lfoTrem wave).vibPhase = ch.vibPhase ∧ (ch.lfoTrem wave).vibLevel = ch.vibLevel ∧
    (ch.lfoTrem wave).hist = ch.hist :=
  ⟨rfl, rfl, rfl, rfl, rfl, rfl, rfl, rfl, rfl, rfl, rfl, rfl, rfl, rfl, rfl, rfl, rfl, rfl, rfl, rfl, rfl, rfl, rfl, rfl, rfl, rfl, rfl, rfl, rfl, rfl, rfl, rfl, rfl, rfl⟩

@[simp] theorem Channel.lfoVib_frame (wave : WaveFn) (ch : Channel) :
    (ch.lfoVib wave).waveSel = ch.waveSel ∧ (ch.lfoVib wave).mode = ch.mode ∧ (ch.lfoVib wave).note = ch.note ∧
    (ch.lfoVib wave).slide = ch.slide ∧ (ch.lfoVib wave).preVol = ch.preVol ∧ (ch.lfoVib wave).postVol = ch.postVol ∧
    (ch.lfoVib wave).fade = ch.fade ∧ (ch.lfoVib wave).length = ch.length ∧ (ch.lfoVib wave).phase = ch.phase ∧
    (ch.lfoVib wave).period = ch.period ∧ (ch.lfoVib wave).delayReq = ch.delayReq ∧ (ch.lfoVib wave).delay = ch.delay ∧
    (ch.lfoVib wave).filterW = ch.filterW ∧ (ch.lfoVib wave).avg = ch.avg ∧ (ch.lfoVib wave).cursor = ch.cursor ∧
    (ch.lfoVib wave).dry = ch.dry ∧ (ch.lfoVib wave).wet = ch.wet ∧ (ch.lfoVib wave).feedback = ch.feedback ∧
    (ch.lfoVib wave).attack = ch.attack ∧ (ch.lfoVib wave).decay = ch.decay ∧ (ch.lfoVib wave).peak = ch.peak ∧
    (ch.lfoVib wave).sustain = ch.sustain ∧ (ch.lfoVib wave).release = ch.release ∧ (ch.lfoVib wave).envPos = ch.envPos ∧
    (ch.lfoVib wave).noteOn = ch.noteOn ∧ (ch.lfoVib wave).tremDepth = ch.tremDepth ∧ (ch.lfoVib wave).tremSel = ch.tremSel ∧
    (ch.lfoVib wave).tremRate = ch.tremRate ∧ (ch.lfoVib wave).tremPhase = ch.tremPhase ∧ (ch.lfoVib wave).tremLevel = ch.tremLevel ∧
    (ch.lfoVib wave).vibDepth = ch.vibDepth ∧ (ch.lfoVib wave).vibSel = ch.vibSel ∧ (ch.lfoVib wave).vibRate = ch.vibRate ∧
    (ch.lfoVib wave).hist = ch.hist :=
  ⟨rfl, rfl, rfl, rfl, rfl, rfl, rfl, rfl, rfl, rfl, rfl, rfl, rfl, rfl, rfl, rfl, rfl, rfl, rfl, rfl, rfl, rfl, rfl, rfl, rfl, rfl, rfl, rfl, rfl, rfl, rfl, rfl, rfl, rfl⟩

@[simp] theorem Channel.dreqNone_frame (ch : Channel) :
    (ch.dreqNone).waveSel = ch.waveSel ∧ (ch.dreqNone).mode = ch.mode ∧ (ch.dreqNone).note = ch.note ∧
    (ch.dreqNone).slide = ch.slide ∧ (ch.dreqNone).preVol = ch.preVol ∧ (ch.dreqNone).postVol = ch.postVol ∧
    (ch.dreqNone).fade = ch.fade ∧ (ch.dreqNone).length = ch.length ∧ (ch.dreqNone).phase = ch.phase ∧
    (ch.dreqNone).period = ch.period ∧ (ch.dreqNone).delay = ch.delay ∧ (ch.dreqNone).filterW = ch.filterW ∧
    (ch.dreqNone).avg = ch.avg ∧ (ch.dreqNone).cursor = ch.cursor ∧ (ch.dreqNone).dry = ch.dry ∧
    (ch.dreqNone).wet = ch.wet ∧ (ch.dreqNone).feedback = ch.feedback ∧ (ch.dreqNone).attack = ch.attack ∧
    (ch.dreqNone).decay = ch.decay ∧ (ch.dreqNone).peak = ch.peak ∧ (ch.dreqNone).sustain = ch.sustain ∧
    (ch.dreqNone).release = ch.release ∧ (ch.dreqNone).envPos = ch.envPos ∧ (ch.dreqNone).noteOn = ch.noteOn ∧
    (ch.dreqNone).tremDepth = ch.tremDepth ∧ (ch.dreqNone).tremSel = ch.tremSel ∧ (ch.dreqNone).tremRate = ch.tremRate ∧
    (ch.dreqNone).tremPhase = ch.tremPhase ∧ (ch.dreqNone).tremLevel = ch.tremLevel ∧ (ch.dreqNone).vibDepth = ch.vibDepth ∧
    (ch.dreqNone).vibSel = ch.vibSel ∧ (ch.dreqNone).vibRate = ch.vibRate ∧ (ch.dreqNone).vibPhase = ch.vibPhase ∧
    (ch.dreqNone).vibLevel = ch.vibLevel ∧ (ch.dreqNone).hist = ch.hist :=
  ⟨rfl, rfl, rfl, rfl, rfl, rfl, rfl, rfl, rfl, rfl, rfl, rfl, rfl, rfl, rfl, rfl, rfl, rfl, rfl, rfl, rfl, rfl, rfl, rfl, rfl, rfl, rfl, rfl, rfl, rfl, rfl, rfl, rfl, rfl, rfl⟩

@[simp] theorem Channel.dreqRsvd_frame (ch : Channel) :
    (ch.dreqRsvd).waveSel = ch.waveSel ∧ (ch.dreqRsvd).mode = ch.mode ∧ (ch.dreqRsvd).note = ch.note ∧
    (ch.dreqRsvd).slide = ch.slide ∧ (ch.dreqRsvd).preVol = ch.preVol ∧ (ch.dreqRsvd).postVol = ch.postVol ∧
    (ch.dreqRsvd).fade = ch.fade ∧ (ch.dreqRsvd).length = ch.length ∧ (ch.dreqRsvd).phase = ch.phase ∧
    (ch.dreqRsvd).period = ch.period ∧ (ch.dreqRsvd).delay = ch.delay ∧ (ch.dreqRsvd).filterW = ch.filterW ∧
    (ch.dreqRsvd).avg = ch.avg ∧ (ch.dreqRsvd).cursor = ch.cursor ∧ (ch.dreqRsvd).dry = ch.dry ∧
    (ch.dreqRsvd).wet = ch.wet ∧ (ch.dreqRsvd).feedback = ch.feedback ∧ (ch.dreqRsvd).attack = ch.attack ∧
    (ch.dreqRsvd).decay = ch.decay ∧ (ch.dreqRsvd).peak = ch.peak ∧ (ch.dreqRsvd).sustain = ch.sustain ∧
    (ch.dreqRsvd).release = ch.release ∧ (ch.dreqRsvd).envPos = ch.envPos ∧ (ch.dreqRsvd).noteOn = ch.noteOn ∧
    (ch.dreqRsvd).tremDepth = ch.tremDepth ∧ (ch.dreqRsvd).tremSel = ch.tremSel ∧ (ch.dreqRsvd).tremRate = ch.tremRate ∧
    (ch.dreqRsvd).tremPhase = ch.tremPhase ∧ (ch.dreqRsvd).tremLevel = ch.tremLevel ∧ (ch.dreqRsvd).vibDepth = ch.vibDepth ∧
    (ch.dreqRsvd).vibSel = ch.vibSel ∧ (ch.dreqRsvd).vibRate = ch.vibRate ∧ (ch.dreqRsvd).vibPhase = ch.vibPhase ∧
    (ch.dreqRsvd).vibLevel = ch.vibLevel ∧ (ch.dreqRsvd).hist = ch.hist :=
  ⟨rfl, rfl, rfl, rfl, rfl, rfl, rfl, rfl, rfl, rfl, rfl, rfl, rfl, rfl, rfl, rfl, rfl, rfl, rfl, rfl, rfl, rfl, rfl, rfl, rfl, rfl, rfl, rfl, rfl, rfl, rfl, rfl, rfl, rfl, rfl⟩

@[simp] theorem Channel.resolveDelay_frame (d : Nat) (v : Int) (ch : Channel) :
    (ch.resolveDelay d v).waveSel = ch.waveSel ∧ (ch.resolveDelay d v).mode = ch.mode ∧ (ch.resolveDelay d v).note = ch.note ∧
    (ch.resolveDelay d v).slide = ch.slide ∧ (ch.resolveDelay d v).preVol = ch.preVol ∧ (ch.resolveDelay d v).postVol = ch.postVol ∧
    (ch.resolveDelay d v).fade = ch.fade ∧ (ch.resolveDelay d v).length = ch.length ∧ (ch.resolveDelay d v).phase = ch.phase ∧
    (ch.resolveDelay d v).period = ch.period ∧ (ch.resolveDelay d v).filterW = ch.filterW ∧ (ch.resolveDelay d v).avg = ch.avg ∧
    (ch.resolveDelay d v).cursor = ch.cursor ∧ (ch.resolveDelay d v).dry = ch.dry ∧ (ch.resolveDelay d v).wet = ch.wet ∧
    (ch.resolveDelay d v).feedback = ch.feedback ∧ (ch.resolveDelay d v).attack = ch.attack ∧ (ch.resolveDelay d v).decay = ch.decay ∧
    (ch.resolveDelay d v).peak = ch.peak ∧ (ch.resolveDelay d v).sustain = ch.sustain ∧ (ch.resolveDelay d v).release = ch.release ∧
    (ch.resolveDelay d v).envPos = ch.envPos ∧ (ch.resolveDelay d v).noteOn = ch.noteOn ∧ (ch.resolveDelay d v).tremDepth = ch.tremDepth ∧
    (ch.resolveDelay d v).tremSel = ch.tremSel ∧ (ch.resolveDelay d v).tremRate = ch.tremRate ∧ (ch.resolveDelay d v).tremPhase = ch.tremPhase ∧
    (ch.resolveDelay d v).tremLevel = ch.tremLevel ∧ (ch.resolveDelay d v).vibDepth = ch.vibDepth ∧ (ch.resolveDelay d v).vibSel = ch.vibSel ∧
    (ch.resolveDelay d v).vibRate = ch.vibRate ∧ (ch.resolveDelay d v).vibPhase = ch.vibPhase ∧ (ch.resolveDelay d v).vibLevel = ch.vibLevel ∧
    (ch.resolveDelay d v).hist = ch.hist :=
  ⟨rfl, rfl, rfl, rfl, rfl, rfl, rfl, rfl, rfl, rfl, rfl, rfl, rfl, rfl, rfl, rfl, rfl, rfl, rfl, rfl, rfl, rfl, rfl, rfl, rfl, rfl, rfl, rfl, rfl, rfl, rfl, rfl, rfl, rfl⟩

@[simp] theorem Channel.clampWidth_frame (w : Nat) (ch : Channel) :
    (ch.clampWidth w).waveSel = ch.waveSel ∧ (ch.clampWidth w).mode = ch.mode ∧ (ch.clampWidth w).note = ch.note ∧
    (ch.clampWidth w).slide = ch.slide ∧ (ch.clampWidth w).preVol = ch.preVol ∧ (ch.clampWidth w).postVol = ch.postVol ∧
    (ch.clampWidth w).fade = ch.fade ∧ (ch.clampWidth w).length = ch.length ∧ (ch.clampWidth w).phase = ch.phase ∧
    (ch.clampWidth w).period = ch.period ∧ (ch.clampWidth w).delayReq = ch.delayReq ∧ (ch.clampWidth w).delay = ch.delay ∧
    (ch.clampWidth w).avg = ch.avg ∧ (ch.clampWidth w).cursor = ch.cursor ∧ (ch.clampWidth w).dry = ch.dry ∧
    (ch.clampWidth w).wet = ch.wet ∧ (ch.clampWidth w).feedback = ch.feedback ∧ (ch.clampWidth w).attack = ch.attack ∧
    (ch.clampWidth w).decay = ch.decay ∧ (ch.clampWidth w).peak = ch.peak ∧ (ch.clampWidth w).sustain = ch.sustain ∧
    (ch.clampWidth w).release = ch.release ∧ (ch.clampWidth w).envPos = ch.envPos ∧ (ch.clampWidth w).noteOn = ch.noteOn ∧
    (ch.clampWidth w).tremDepth = ch.tremDepth ∧ (ch.clampWidth w).tremSel = ch.tremSel ∧ (ch.clampWidth w).tremRate = ch.tremRate ∧
    (ch.clampWidth w).tremPhase = ch.tremPhase ∧ (ch.clampWidth w).tremLevel = ch.tremLevel ∧ (ch.clampWidth w).vibDepth = ch.vibDepth ∧
    (ch.clampWidth w).vibSel = ch.vibSel ∧ (ch.clampWidth w).vibRate = ch.vibRate ∧ (ch.clampWidth w).vibPhase = ch.vibPhase ∧
    (ch.clampWidth w).vibLevel = ch.vibLevel ∧ (ch.clampWidth w).hist = ch.hist :=
  ⟨rfl, rfl, rfl, rfl, rfl, rfl, rfl, rfl, rfl, rfl, rfl, rfl, rfl, rfl, rfl, rfl, rfl, rfl, rfl, rfl, rfl, rfl, rfl, rfl, rfl, rfl, rfl, rfl, rfl, rfl, rfl, rfl, rfl, rfl, rfl⟩

@[simp] theorem Channel.setPeriod_frame (rate : Word) (ch : Channel) :
    (ch.setPeriod rate).waveSel = ch.waveSel ∧ (ch.setPeriod rate).mode = ch.mode ∧ (ch.setPeriod rate).note = ch.note ∧
    (ch.setPeriod rate).slide = ch.slide ∧ (ch.setPeriod rate).preVol = ch.preVol ∧ (ch.setPeriod rate).postVol = ch.postVol ∧
    (ch.setPeriod rate).fade = ch.fade ∧ (ch.setPeriod rate).length = ch.length ∧ (ch.setPeriod rate).phase = ch.phase ∧
    (ch.setPeriod rate).delayReq = ch.delayReq ∧ (ch.setPeriod rate).delay = ch.delay ∧ (ch.setPeriod rate).filterW = ch.filterW ∧
    (ch.setPeriod rate).avg = ch.avg ∧ (ch.setPeriod rate).cursor = ch.cursor ∧ (ch.setPeriod rate).dry = ch.dry ∧
    (ch.setPeriod rate).wet = ch.wet ∧ (ch.setPeriod rate).feedback = ch.feedback ∧ (ch.setPeriod rate).attack = ch.attack ∧
    (ch.setPeriod rate).decay = ch.decay ∧ (ch.setPeriod rate).peak = ch.peak ∧ (ch.setPeriod rate).sustain = ch.sustain ∧
    (ch.setPeriod rate).release = ch.release ∧ (ch.setPeriod rate).envPos = ch.envPos ∧ (ch.setPeriod rate).noteOn = ch.noteOn ∧
    (ch.setPeriod rate).tremDepth = ch.tremDepth ∧ (ch.setPeriod rate).tremSel = ch.tremSel ∧ (ch.setPeriod rate).tremRate = ch.tremRate ∧
    (ch.setPeriod rate).tremPhase = ch.tremPhase ∧ (ch.setPeriod rate).tremLevel = ch.tremLevel ∧ (ch.setPeriod rate).vibDepth = ch.vibDepth ∧
    (ch.setPeriod rate).vibSel = ch.vibSel ∧ (ch.setPeriod rate).vibRate = ch.vibRate ∧ (ch.setPeriod rate).vibPhase = ch.vibPhase ∧
    (ch.setPeriod rate).vibLevel = ch.vibLevel ∧ (ch.setPeriod rate).hist = ch.hist :=
  ⟨rfl, rfl, rfl, rfl, rfl, rfl, rfl, rfl, rfl, rfl, rfl, rfl, rfl, rfl, rfl, rfl, rfl, rfl, rfl, rfl, rfl, rfl, rfl, rfl, rfl, rfl, rfl, rfl, rfl, rfl, rfl, rfl, rfl, rfl, rfl⟩

@[simp] theorem Channel.dfStep_frame (n : Nat) (x : Sample) (ch : Channel) :
    ((ch.dfStep n x).1).waveSel = ch.waveSel ∧ ((ch.dfStep n x).1).mode = ch.mode ∧ ((ch.dfStep n x).1).note = ch.note ∧
    ((ch.dfStep n x).1).slide = ch.slide ∧ ((ch.dfStep n x).1).preVol = ch.preVol ∧ ((ch.dfStep n x).1).postVol = ch.postVol ∧
    ((ch.dfStep n x).1).fade = ch.fade ∧ ((ch.dfStep n x).1).length = ch.length ∧ ((ch.dfStep n x).1).phase = ch.phase ∧
    ((ch.dfStep n x).1).period = ch.period ∧ ((ch.dfStep n x).1).delayReq = ch.delayReq ∧ ((ch.dfStep n x).1).delay = ch.delay ∧
    ((ch.dfStep n x).1).filterW = ch.filterW ∧ ((ch.dfStep n x).1).dry = ch.dry ∧ ((ch.dfStep n x).1).wet = ch.wet ∧
    ((ch.dfStep n x).1).feedback = ch.feedback ∧ ((ch.dfStep n x).1).attack = ch.attack ∧ ((ch.dfStep n x).1).decay = ch.decay ∧
    ((ch.dfStep n x).1).peak = ch.peak ∧ ((ch.dfStep n x).1).sustain = ch.sustain ∧ ((ch.dfStep n x).1).release = ch.release ∧
    ((ch.dfStep n x).1).envPos = ch.envPos ∧ ((ch.dfStep n x).1).noteOn = ch.noteOn ∧ ((ch.dfStep n x).1).tremDepth = ch.tremDepth ∧
    ((ch.dfStep n x).1).tremSel = ch.tremSel ∧ ((ch.dfStep n x).1).tremRate = ch.tremRate ∧ ((ch.dfStep n x).1).tremPhase = ch.tremPhase ∧
    ((ch.dfStep n x).1).tremLevel = ch.tremLevel ∧ ((ch.dfStep n x).1).vibDepth = ch.vibDepth ∧ ((ch.dfStep n x).1).vibSel = ch.vibSel ∧
    ((ch.dfStep n x).1).vibRate = ch.vibRate ∧ ((ch.dfStep n x).1).vibPhase = ch.vibPhase ∧ ((ch.dfStep n x).1).vibLevel = ch.vibLevel :=
  ⟨rfl, rfl, rfl, rfl, rfl, rfl, rfl, rfl, rfl, rfl, rfl, rfl, rfl, rfl, rfl, rfl, rfl, rfl, rfl, rfl, rfl, rfl, rfl, rfl, rfl, rfl, rfl, rfl, rfl, rfl, rfl, rfl, rfl⟩

/-- 42_envelope_lfo.md R122: under the variant's condition the result is in range, and no free value is taken. -/
theorem Channel.envRelease_preVol {ch : Channel} (h : 1 ≤ ch.release.toInt) :
    ch.envRelease.preVol.toInt = max (ch.preVol.toInt - ch.release.toInt) 0 := by
  have := ch.preVol.toInt_lt
  simp only [Channel.envRelease]
  rw [s32Or_of_range (by omega) (by omega), toInt_toWord (by omega) (by omega)]

/-- R123: likewise for ENV.ATTACK. -/
theorem Channel.envAttack_preVol {ch : Channel} (h : 1 ≤ ch.attack.toInt) :
    ch.envAttack.preVol.toInt = min (ch.preVol.toInt + ch.attack.toInt) unity := by
  have := ch.preVol.le_toInt
  have hu : unity = 65536 := rfl
  simp only [Channel.envAttack]
  rw [s32Or_of_range (by omega) (by omega), toInt_toWord (by omega) (by omega)]

@[simp] theorem Channel.env_frame (ch : Channel) :
    (ch.env).waveSel = ch.waveSel ∧ (ch.env).mode = ch.mode ∧ (ch.env).note = ch.note ∧
    (ch.env).slide = ch.slide ∧ (ch.env).postVol = ch.postVol ∧ (ch.env).fade = ch.fade ∧
    (ch.env).length = ch.length ∧ (ch.env).phase = ch.phase ∧ (ch.env).period = ch.period ∧
    (ch.env).delayReq = ch.delayReq ∧ (ch.env).delay = ch.delay ∧ (ch.env).filterW = ch.filterW ∧
    (ch.env).avg = ch.avg ∧ (ch.env).cursor = ch.cursor ∧ (ch.env).dry = ch.dry ∧
    (ch.env).wet = ch.wet ∧ (ch.env).feedback = ch.feedback ∧ (ch.env).attack = ch.attack ∧
    (ch.env).decay = ch.decay ∧ (ch.env).peak = ch.peak ∧ (ch.env).sustain = ch.sustain ∧
    (ch.env).release = ch.release ∧ (ch.env).noteOn = ch.noteOn ∧ (ch.env).tremDepth = ch.tremDepth ∧
    (ch.env).tremSel = ch.tremSel ∧ (ch.env).tremRate = ch.tremRate ∧ (ch.env).tremPhase = ch.tremPhase ∧
    (ch.env).tremLevel = ch.tremLevel ∧ (ch.env).vibDepth = ch.vibDepth ∧ (ch.env).vibSel = ch.vibSel ∧
    (ch.env).vibRate = ch.vibRate ∧ (ch.env).vibPhase = ch.vibPhase ∧ (ch.env).vibLevel = ch.vibLevel ∧
    (ch.env).hist = ch.hist := by
  unfold Channel.env
  split_ifs <;> simp [Channel.envIdle, Channel.envSustain]

@[simp] theorem Channel.dreq_frame (d : Nat) (tr : Word) (v : Int) (ch : Channel) :
    (ch.dreq d tr v).waveSel = ch.waveSel ∧ (ch.dreq d tr v).mode = ch.mode ∧ (ch.dreq d tr v).note = ch.note ∧
    (ch.dreq d tr v).slide = ch.slide ∧ (ch.dreq d tr v).preVol = ch.preVol ∧ (ch.dreq d tr v).postVol = ch.postVol ∧
    (ch.dreq d tr v).fade = ch.fade ∧ (ch.dreq d tr v).length = ch.length ∧ (ch.dreq d tr v).phase = ch.phase ∧
    (ch.dreq d tr v).period = ch.period ∧ (ch.dreq d tr v).filterW = ch.filterW ∧ (ch.dreq d tr v).avg = ch.avg ∧
    (ch.dreq d tr v).cursor = ch.cursor ∧ (ch.dreq d tr v).dry = ch.dry ∧ (ch.dreq d tr v).wet = ch.wet ∧
    (ch.dreq d tr v).feedback = ch.feedback ∧ (ch.dreq d tr v).attack = ch.attack ∧ (ch.dreq d tr v).decay = ch.decay ∧
    (ch.dreq d tr v).peak = ch.peak ∧ (ch.dreq d tr v).sustain = ch.sustain ∧ (ch.dreq d tr v).release = ch.release ∧
    (ch.dreq d tr v).envPos = ch.envPos ∧ (ch.dreq d tr v).noteOn = ch.noteOn ∧ (ch.dreq d tr v).tremDepth = ch.tremDepth ∧
    (ch.dreq d tr v).tremSel = ch.tremSel ∧ (ch.dreq d tr v).tremRate = ch.tremRate ∧ (ch.dreq d tr v).tremPhase = ch.tremPhase ∧
    (ch.dreq d tr v).tremLevel = ch.tremLevel ∧ (ch.dreq d tr v).vibDepth = ch.vibDepth ∧ (ch.dreq d tr v).vibSel = ch.vibSel ∧
    (ch.dreq d tr v).vibRate = ch.vibRate ∧ (ch.dreq d tr v).vibPhase = ch.vibPhase ∧ (ch.dreq d tr v).vibLevel = ch.vibLevel ∧
    (ch.dreq d tr v).hist = ch.hist := by
  unfold Channel.dreq
  split_ifs <;> simp [Channel.dreqTicks, Channel.dreqNote]

@[simp] theorem Channel.ncoAdvance_frame (ch : Channel) :
    (ch.ncoAdvance).waveSel = ch.waveSel ∧ (ch.ncoAdvance).mode = ch.mode ∧ (ch.ncoAdvance).note = ch.note ∧
    (ch.ncoAdvance).slide = ch.slide ∧ (ch.ncoAdvance).preVol = ch.preVol ∧ (ch.ncoAdvance).postVol = ch.postVol ∧
    (ch.ncoAdvance).fade = ch.fade ∧ (ch.ncoAdvance).length = ch.length ∧ (ch.ncoAdvance).period = ch.period ∧
    (ch.ncoAdvance).delayReq = ch.delayReq ∧ (ch.ncoAdvance).delay = ch.delay ∧ (ch.ncoAdvance).filterW = ch.filterW ∧
    (ch.ncoAdvance).avg = ch.avg ∧ (ch.ncoAdvance).cursor = ch.cursor ∧ (ch.ncoAdvance).dry = ch.dry ∧
    (ch.ncoAdvance).wet = ch.wet ∧ (ch.ncoAdvance).feedback = ch.feedback ∧ (ch.ncoAdvance).attack = ch.attack ∧
    (ch.ncoAdvance).decay = ch.decay ∧ (ch.ncoAdvance).peak = ch.peak ∧ (ch.ncoAdvance).sustain = ch.sustain ∧
    (ch.ncoAdvance).release = ch.release ∧ (ch.ncoAdvance).envPos = ch.envPos ∧ (ch.ncoAdvance).noteOn = ch.noteOn ∧
    (ch.ncoAdvance).tremDepth = ch.tremDepth ∧ (ch.ncoAdvance).tremSel = ch.tremSel ∧ (ch.ncoAdvance).tremRate = ch.tremRate ∧
    (ch.ncoAdvance).tremPhase = ch.tremPhase ∧ (ch.ncoAdvance).tremLevel = ch.tremLevel ∧ (ch.ncoAdvance).vibDepth = ch.vibDepth ∧
    (ch.ncoAdvance).vibSel = ch.vibSel ∧ (ch.ncoAdvance).vibRate = ch.vibRate ∧ (ch.ncoAdvance).vibPhase = ch.vibPhase ∧
    (ch.ncoAdvance).vibLevel = ch.vibLevel ∧ (ch.ncoAdvance).hist = ch.hist := by
  unfold Channel.ncoAdvance
  split_ifs <;> simp

@[simp] theorem syncRight_frame (m : PairMode) (w : Bool) (ch : Channel) :
    (syncRight m w ch).waveSel = ch.waveSel ∧ (syncRight m w ch).mode = ch.mode ∧ (syncRight m w ch).note = ch.note ∧
    (syncRight m w ch).slide = ch.slide ∧ (syncRight m w ch).preVol = ch.preVol ∧ (syncRight m w ch).postVol = ch.postVol ∧
    (syncRight m w ch).fade = ch.fade ∧ (syncRight m w ch).length = ch.length ∧ (syncRight m w ch).period = ch.period ∧
    (syncRight m w ch).delayReq = ch.delayReq ∧ (syncRight m w ch).delay = ch.delay ∧ (syncRight m w ch).filterW = ch.filterW ∧
    (syncRight m w ch).avg = ch.avg ∧ (syncRight m w ch).cursor = ch.cursor ∧ (syncRight m w ch).dry = ch.dry ∧
    (syncRight m w ch).wet = ch.wet ∧ (syncRight m w ch).feedback = ch.feedback ∧ (syncRight m w ch).attack = ch.attack ∧
    (syncRight m w ch).decay = ch.decay ∧ (syncRight m w ch).peak = ch.peak ∧ (syncRight m w ch).sustain = ch.sustain ∧
    (syncRight m w ch).release = ch.release ∧ (syncRight m w ch).envPos = ch.envPos ∧ (syncRight m w ch).noteOn = ch.noteOn ∧
    (syncRight m w ch).tremDepth = ch.tremDepth ∧ (syncRight m w ch).tremSel = ch.tremSel ∧ (syncRight m w ch).tremRate = ch.tremRate ∧
    (syncRight m w ch).tremPhase = ch.tremPhase ∧ (syncRight m w ch).tremLevel = ch.tremLevel ∧ (syncRight m w ch).vibDepth = ch.vibDepth ∧
    (syncRight m w ch).vibSel = ch.vibSel ∧ (syncRight m w ch).vibRate = ch.vibRate ∧ (syncRight m w ch).vibPhase = ch.vibPhase ∧
    (syncRight m w ch).vibLevel = ch.vibLevel ∧ (syncRight m w ch).hist = ch.hist := by
  unfold syncRight
  split_ifs <;> simp

@[simp] theorem Channel.tick_frame (wave : WaveFn) (g : State) (ch : Channel) :
    (ch.tick wave g).waveSel = ch.waveSel ∧ (ch.tick wave g).mode = ch.mode ∧ (ch.tick wave g).slide = ch.slide ∧
    (ch.tick wave g).fade = ch.fade ∧ (ch.tick wave g).length = ch.length ∧ (ch.tick wave g).phase = ch.phase ∧
    (ch.tick wave g).avg = ch.avg ∧ (ch.tick wave g).cursor = ch.cursor ∧ (ch.tick wave g).dry = ch.dry ∧
    (ch.tick wave g).wet = ch.wet ∧ (ch.tick wave g).feedback = ch.feedback ∧ (ch.tick wave g).attack = ch.attack ∧
    (ch.tick wave g).decay = ch.decay ∧ (ch.tick wave g).peak = ch.peak ∧ (ch.tick wave g).sustain = ch.sustain ∧
    (ch.tick wave g).release = ch.release ∧ (ch.tick wave g).noteOn = ch.noteOn ∧ (ch.tick wave g).tremDepth = ch.tremDepth ∧
    (ch.tick wave g).tremSel = ch.tremSel ∧ (ch.tick wave g).tremRate = ch.tremRate ∧ (ch.tick wave g).vibDepth = ch.vibDepth ∧
    (ch.tick wave g).vibSel = ch.vibSel ∧ (ch.tick wave g).vibRate = ch.vibRate ∧ (ch.tick wave g).hist = ch.hist := by
  simp [Channel.tick]

@[simp] theorem Pair.stepAs_left_frame (wave : WaveFn) (n : Nat) (m : PairMode) (pr : Pair) :
    ((pr.stepAs wave n m).1.left).waveSel = pr.left.waveSel ∧ ((pr.stepAs wave n m).1.left).mode = pr.left.mode ∧ ((pr.stepAs wave n m).1.left).note = pr.left.note ∧
    ((pr.stepAs wave n m).1.left).slide = pr.left.slide ∧ ((pr.stepAs wave n m).1.left).preVol = pr.left.preVol ∧ ((pr.stepAs wave n m).1.left).postVol = pr.left.postVol ∧
    ((pr.stepAs wave n m).1.left).fade = pr.left.fade ∧ ((pr.stepAs wave n m).1.left).length = pr.left.length ∧ ((pr.stepAs wave n m).1.left).period = pr.left.period ∧
    ((pr.stepAs wave n m).1.left).delayReq = pr.left.delayReq ∧ ((pr.stepAs wave n m).1.left).delay = pr.left.delay ∧ ((pr.stepAs wave n m).1.left).filterW = pr.left.filterW ∧
    ((pr.stepAs wave n m).1.left).dry = pr.left.dry ∧ ((pr.stepAs wave n m).1.left).wet = pr.left.wet ∧ ((pr.stepAs wave n m).1.left).feedback = pr.left.feedback ∧
    ((pr.stepAs wave n m).1.left).attack = pr.left.attack ∧ ((pr.stepAs wave n m).1.left).decay = pr.left.decay ∧ ((pr.stepAs wave n m).1.left).peak = pr.left.peak ∧
    ((pr.stepAs wave n m).1.left).sustain = pr.left.sustain ∧ ((pr.stepAs wave n m).1.left).release = pr.left.release ∧ ((pr.stepAs wave n m).1.left).envPos = pr.left.envPos ∧
    ((pr.stepAs wave n m).1.left).noteOn = pr.left.noteOn ∧ ((pr.stepAs wave n m).1.left).tremDepth = pr.left.tremDepth ∧ ((pr.stepAs wave n m).1.left).tremSel = pr.left.tremSel ∧
    ((pr.stepAs wave n m).1.left).tremRate = pr.left.tremRate ∧ ((pr.stepAs wave n m).1.left).tremPhase = pr.left.tremPhase ∧ ((pr.stepAs wave n m).1.left).tremLevel = pr.left.tremLevel ∧
    ((pr.stepAs wave n m).1.left).vibDepth = pr.left.vibDepth ∧ ((pr.stepAs wave n m).1.left).vibSel = pr.left.vibSel ∧ ((pr.stepAs wave n m).1.left).vibRate = pr.left.vibRate ∧
    ((pr.stepAs wave n m).1.left).vibPhase = pr.left.vibPhase ∧ ((pr.stepAs wave n m).1.left).vibLevel = pr.left.vibLevel := by
  simp [Pair.stepAs]

@[simp] theorem Pair.stepAs_right_frame (wave : WaveFn) (n : Nat) (m : PairMode) (pr : Pair) :
    ((pr.stepAs wave n m).1.right).waveSel = pr.right.waveSel ∧ ((pr.stepAs wave n m).1.right).mode = pr.right.mode ∧ ((pr.stepAs wave n m).1.right).note = pr.right.note ∧
    ((pr.stepAs wave n m).1.right).slide = pr.right.slide ∧ ((pr.stepAs wave n m).1.right).preVol = pr.right.preVol ∧ ((pr.stepAs wave n m).1.right).postVol = pr.right.postVol ∧
    ((pr.stepAs wave n m).1.right).fade = pr.right.fade ∧ ((pr.stepAs wave n m).1.right).length = pr.right.length ∧ ((pr.stepAs wave n m).1.right).period = pr.right.period ∧
    ((pr.stepAs wave n m).1.right).delayReq = pr.right.delayReq ∧ ((pr.stepAs wave n m).1.right).delay = pr.right.delay ∧ ((pr.stepAs wave n m).1.right).filterW = pr.right.filterW ∧
    ((pr.stepAs wave n m).1.right).dry = pr.right.dry ∧ ((pr.stepAs wave n m).1.right).wet = pr.right.wet ∧ ((pr.stepAs wave n m).1.right).feedback = pr.right.feedback ∧
    ((pr.stepAs wave n m).1.right).attack = pr.right.attack ∧ ((pr.stepAs wave n m).1.right).decay = pr.right.decay ∧ ((pr.stepAs wave n m).1.right).peak = pr.right.peak ∧
    ((pr.stepAs wave n m).1.right).sustain = pr.right.sustain ∧ ((pr.stepAs wave n m).1.right).release = pr.right.release ∧ ((pr.stepAs wave n m).1.right).envPos = pr.right.envPos ∧
    ((pr.stepAs wave n m).1.right).noteOn = pr.right.noteOn ∧ ((pr.stepAs wave n m).1.right).tremDepth = pr.right.tremDepth ∧ ((pr.stepAs wave n m).1.right).tremSel = pr.right.tremSel ∧
    ((pr.stepAs wave n m).1.right).tremRate = pr.right.tremRate ∧ ((pr.stepAs wave n m).1.right).tremPhase = pr.right.tremPhase ∧ ((pr.stepAs wave n m).1.right).tremLevel = pr.right.tremLevel ∧
    ((pr.stepAs wave n m).1.right).vibDepth = pr.right.vibDepth ∧ ((pr.stepAs wave n m).1.right).vibSel = pr.right.vibSel ∧ ((pr.stepAs wave n m).1.right).vibRate = pr.right.vibRate ∧
    ((pr.stepAs wave n m).1.right).vibPhase = pr.right.vibPhase ∧ ((pr.stepAs wave n m).1.right).vibLevel = pr.right.vibLevel := by
  simp [Pair.stepAs]

/-- 10_state.md R51: a host write reaches no sample-rate field and no derived field. -/
@[simp] theorem Channel.writeReg_frame (ch : Channel) (d : Word) (r : ChReg) :
    (ch.writeReg d r).phase = ch.phase ∧ (ch.writeReg d r).period = ch.period ∧ (ch.writeReg d r).delay = ch.delay ∧ (ch.writeReg d r).avg = ch.avg ∧
    (ch.writeReg d r).cursor = ch.cursor ∧ (ch.writeReg d r).tremLevel = ch.tremLevel ∧ (ch.writeReg d r).vibLevel = ch.vibLevel ∧ (ch.writeReg d r).hist = ch.hist := by
  cases r <;> exact ⟨rfl, rfl, rfl, rfl, rfl, rfl, rfl, rfl⟩

/-! ### DF_STEP (43_delay_filter.md R130, R131) -/

theorem Channel.effWidth_pos (n : Nat) (hn : 2 ≤ n) (ch : Channel) : 1 ≤ ch.effWidth n := by
  unfold Channel.effWidth clamp
  omega

theorem histIndex_lt {n : Nat} (hn : 0 < n) (i : Int) : histIndex n i < n := by
  unfold histIndex
  have h1 := Int.emod_nonneg i (b := (n : Int)) (by omega)
  have h2 := Int.emod_lt_of_pos i (b := (n : Int)) (by omega)
  omega

/-- DF_STEP keeps a channel safe, for a buffer that a 32-bit cursor can index. -/
theorem Channel.safe_dfStep {n : Nat} (hn : 0 < n) (hn' : n ≤ 4294967296) (x : Sample) {ch : Channel}
    (h : ch.safe n = true) : (ch.dfStep n x).1.safe n = true := by
  simp only [Channel.safe, Bool.and_eq_true, decide_eq_true_eq] at h ⊢
  obtain ⟨⟨⟨h1, h2⟩, _⟩, h4⟩ := h
  refine ⟨⟨⟨Memory.wf_write h1 _ _, Memory.within_write h2 (histIndex_lt hn _) _⟩, ?_⟩, h4⟩
  have hu := u32_range ch.cursor
  have h1 := Int.emod_nonneg (u32 ch.cursor + 1) (b := (n : Int)) (by omega)
  have h2 := Int.emod_lt_of_pos (u32 ch.cursor + 1) (b := (n : Int)) (by omega)
  show (toWord ((u32 ch.cursor + 1) % (n : Int))).toNat < n
  rw [toNat_toWord h1 (by omega)]
  omega

/-- Safety looks at four fields only. -/
theorem Channel.safe_congr {n : Nat} {a b : Channel} (h : a.safe n = true) (h1 : b.hist = a.hist)
    (h2 : b.cursor = a.cursor) (h3 : b.delay = a.delay) : b.safe n = true := by
  simpa only [Channel.safe, h1, h2, h3] using h

/-- A pair step keeps a pair safe. -/
theorem Pair.safe_stepAs {n : Nat} (hn : 0 < n) (hn' : n ≤ 4294967296) (wave : WaveFn) (m : PairMode) {pr : Pair}
    (h : pr.safe n = true) : (pr.stepAs wave n m).1.safe n = true := by
  simp only [Pair.safe, Bool.and_eq_true] at h ⊢
  exact ⟨Channel.safe_dfStep hn hn' _ (Channel.safe_congr h.1 (by simp) (by simp) (by simp)),
    Channel.safe_dfStep hn hn' _ (Channel.safe_congr h.2 (by simp) (by simp) (by simp))⟩

/-! ### The tick (41_tick_scheduler.md R115 to R117) -/

theorem tickInterval_pos (sr b t : Word) : 1 ≤ Sys2Proof.Machine.tickInterval sr b t := by
  unfold Sys2Proof.Machine.tickInterval
  split_ifs <;> omega

/-- A resolved delay is in [0, MAX_DELAY]. -/
theorem Channel.resolveDelay_le {d : Nat} (hd : d < 4294967296) {v : Int} (hv : 0 ≤ v) (ch : Channel) :
    (ch.resolveDelay d v).delay.toNat ≤ d := by
  show (toWord (min v d)).toNat ≤ d
  rw [toNat_toWord (by omega) (by omega)]
  omega

/-- The DREQ step leaves DELAY or sets it inside its range. -/
theorem Channel.dreq_delay_le {d : Nat} (hd : d < 4294967296) (tr : Word) {v : Int} (hv : 0 ≤ v) {ch : Channel}
    (h : ch.delay.toNat ≤ d) : (ch.dreq d tr v).delay.toNat ≤ d := by
  unfold Channel.dreq
  split_ifs
  · simpa using h
  · exact Channel.resolveDelay_le hd (by positivity) ch
  · exact Channel.resolveDelay_le hd (mul_nonneg (mul_nonneg (by positivity) (u32_range tr).1) hv) ch
  · simpa using h

/-- A tick keeps a channel safe. -/
theorem Channel.safe_tick (wave : WaveFn) (g : State) (hg : g.maxDelay < 4294967296) {ch : Channel}
    (h : ch.safe g.histLen = true) : (ch.tick wave g).safe g.histLen = true := by
  simp only [Channel.safe, Bool.and_eq_true, decide_eq_true_eq] at h ⊢
  refine ⟨by simpa using h.1, ?_⟩
  have := Channel.dreq_delay_le hg g.tickRate (v := g.tickInterval)
    (le_trans zero_le_one (tickInterval_pos _ _ _))
    (ch := (ch.slideNote.fadeVol.env.lfoTrem wave).lfoVib wave) (by simpa [State.maxDelay] using h.2)
  simpa [Channel.tick, State.maxDelay] using this

/-! ### Conditions as propositions -/

/-- The condition of Attack (30_encoding.md R92). -/
theorem Channel.attackDue_iff (ch : Channel) :
    ch.attackDue = true ↔
      1 ≤ ch.attack.toInt ∧ (ch.envPos.toNat : Int) < Int.tdiv ch.peak.toInt ch.attack.toInt := by
  unfold Channel.attackDue
  rw [Bool.and_eq_true, decide_eq_true_eq, decide_eq_true_eq]
  exact Iff.rfl

/-- `wrapL` (44_pair_worker.md R142). -/
theorem Channel.wraps_iff (ch : Channel) : ch.wraps = true ↔ ch.length.toNat ≤ ch.phase.toNat + ch.period.toNat := by
  unfold Channel.wraps
  rw [decide_eq_true_eq]

/-- The condition of the callback (45_mixer_control.md R151). -/
theorem State.callbackDue_iff (s : State) : s.callbackDue = true ↔ s.tickSpeed.toNat ≤ s.tickCounter.toNat := by
  unfold State.callbackDue
  rw [decide_eq_true_eq]

end Sys2Proof.Machine
end

