-- ==== Sys2Proof/Laws/Decode.lean ====
section
/-! SUPPORT. The laws of the decoder: offsets name registers, a decoded instruction is a transaction, and it is well-formed. -/

namespace Sys2Proof

/-- R30, R84: the offset of a register names it. -/
@[simp] theorem ChReg.ofOffset_offset (r : ChReg) : ChReg.ofOffset r.offset = some r := by cases r <;> rfl

/-- R20: the offset of a global register names it. -/
@[simp] theorem GlobReg.ofOffset_offset (r : GlobReg) : GlobReg.ofOffset r.offset = some r := by cases r <;> rfl

theorem ChReg.offset_lt (r : ChReg) : r.offset < 0x8C := by cases r <;> decide

theorem ChReg.offset_aligned (r : ChReg) : r.offset % 4 = 0 := by cases r <;> decide

/-- A register found at an offset has that offset. -/
theorem ChReg.offset_of_ofOffset {off : Nat} {r : ChReg} (h : ChReg.ofOffset off = some r) : r.offset = off := by
  have := List.find?_some h
  simpa using this

/-! ### The fields of a header (30_encoding.md R81) -/

@[simp] theorem hdrOp_mkHdr (op : BitVec 2) (rsv : BitVec 14) (b : Addr) : hdrOp (mkHdr op rsv b) = op := by
  ext i hi
  simp only [hdrOp, mkHdr, BitVec.getElem_extractLsb', BitVec.getLsbD_append]
  rw [if_neg (by omega), if_neg (by omega)]
  rw [← BitVec.getLsbD_eq_getElem]
  congr 1
  omega

@[simp] theorem hdrRsv_mkHdr (op : BitVec 2) (rsv : BitVec 14) (b : Addr) : hdrRsv (mkHdr op rsv b) = rsv := by
  ext i hi
  simp only [hdrRsv, mkHdr, BitVec.getElem_extractLsb', BitVec.getLsbD_append]
  rw [if_neg (by omega), if_pos (by omega)]
  rw [← BitVec.getLsbD_eq_getElem]
  congr 1
  omega

@[simp] theorem hdrBaddr_mkHdr (op : BitVec 2) (rsv : BitVec 14) (b : Addr) : hdrBaddr (mkHdr op rsv b) = b := by
  ext i hi
  simp only [hdrBaddr, mkHdr, BitVec.getElem_extractLsb', BitVec.getLsbD_append]
  rw [if_pos (by omega)]
  rw [← BitVec.getLsbD_eq_getElem]
  congr 1
  omega

/-- A header is its three fields. -/
theorem mkHdr_fields (h : Word) : mkHdr (hdrOp h) (hdrRsv h) (hdrBaddr h) = h := by
  ext i hi
  simp only [hdrOp, hdrRsv, hdrBaddr, mkHdr]
  rw [← BitVec.getLsbD_eq_getElem, ← BitVec.getLsbD_eq_getElem]
  simp only [BitVec.getLsbD_append, BitVec.getLsbD_extractLsb']
  by_cases h1 : i < 16
  · simp [h1]
  · by_cases h2 : i - 16 < 14
    · have : i < 30 := by omega
      simp [h1, h2, show 16 + (i - 16) = i by omega]
    · simp [h1, h2, show 30 + (i - 16 - 14) = i by omega, show i - 16 - 14 < 2 by omega]

/-! ### Addresses (30_encoding.md R84, R85) -/

theorem addrField (a : Nat) (ha : a < 65536) (lo len : Nat) :
    ((BitVec.ofNat 16 a).extractLsb' lo len).toNat = a / 2 ^ lo % 2 ^ len := by
  have h : a % 2 ^ 16 = a := Nat.mod_eq_of_lt ha
  rw [BitVec.extractLsb'_toNat, BitVec.toNat_ofNat, h, Nat.shiftRight_eq_div_pow]

/-- The address of a channel's register decodes to it, on a core that has the channel. -/
theorem decodeAddr_chanAddr {n c : Nat} (hn : n ≤ 56) (hc : c < 2 * n) (r : ChReg) :
    decodeAddr n (chanAddr c r) = .chan c r.offset := by
  have hr := r.offset_lt
  have ha : 0x1000 + 0x100 * c + r.offset < 65536 := by omega
  simp only [decodeAddr, chanAddr, addrBlock, addrOff, addrField _ ha]
  rw [if_neg (by omega), if_pos (by omega), if_pos (by omega)]
  congr 1 <;> omega

/-- The alias address of a pair's register decodes to it, on a core that has the pair. -/
theorem decodeAddr_pairAddr {n p : Nat} (hn : n ≤ 56) (hp : p < n) (r : ChReg) :
    decodeAddr n (pairAddr p r) = .pair p r.offset := by
  have hr := r.offset_lt
  have ha : 0x8000 + 0x100 * p + r.offset < 65536 := by omega
  simp only [decodeAddr, pairAddr, addrBlock, addrOff, addrField _ ha]
  rw [if_neg (by omega), if_neg (by omega), if_pos (by omega)]
  congr 1 <;> omega

/-- The address of a global register decodes to it, on every core. -/
theorem decodeAddr_globAddr (n : Nat) (r : GlobReg) : decodeAddr n (globAddr r) = .glob r := by
  cases r <;> rfl

/-! ### What decodes to what -/

/-- Every WRITE decodes to a host transaction. -/
theorem decodeWrite_isTransaction (n : Nat) (b : Addr) (d : Word) : (decodeWrite n b d).isTransaction = true := by
  unfold decodeWrite
  split <;> (try rfl) <;> split <;> (try split) <;> rfl

/-- The decoder answers host transactions only (30_encoding.md R90). -/
theorem decode_isTransaction {n : Nat} {ws rest : List Word} {i : Instr} (h : decode n ws = .ok (i, rest)) :
    i.isTransaction = true := by
  obtain _ | ⟨hdr, ws⟩ := ws
  · cases h
  · by_cases h2 : hdrOp hdr = 2
    · obtain _ | ⟨d, ws⟩ := ws
      · simp [decode, h2] at h
      · simp only [decode, if_pos h2] at h
        split_ifs at h <;> cases h
        · rfl
        · exact decodeWrite_isTransaction ..
    · simp only [decode, if_neg h2] at h
      split_ifs at h <;> cases h <;> rfl

/-- The channel index of a decoded address is one the machine has (30_encoding.md R84). -/
theorem decodeAddr_chan_lt {n : Nat} {b : Addr} {c off : Nat} (h : decodeAddr n b = .chan c off) : c < 2 * n := by
  unfold decodeAddr at h
  split_ifs at h
  · split at h <;> cases h
  · cases h
    assumption

/-- The pair index of a decoded address is one the machine has. -/
theorem decodeAddr_pair_lt {n : Nat} {b : Addr} {p off : Nat} (h : decodeAddr n b = .pair p off) : p < n := by
  unfold decodeAddr at h
  split_ifs at h
  · split at h <;> cases h
  · cases h
    assumption

end Sys2Proof
end

