-- ==== Sys2Proof/Laws/Ops.lean ====
section
/-! SUPPORT. One specification lemma per shared operation: channels and pairs by index, the meaning of an operation on one channel or one pair, register writes, phase A, and reading the register space. -/

namespace Sys2Proof.Machine

/-! ### Channels and pairs by index (00_scope.md R15) -/

@[simp] theorem Pair.get_set (b : Bool) (ch : Channel) (pr : Pair) : (pr.set b ch).get b = ch := by
  cases b <;> rfl

theorem Pair.get_set_other {a b : Bool} (h : a ≠ b) (ch : Channel) (pr : Pair) : (pr.set b ch).get a = pr.get a := by
  cases a <;> cases b <;> first | exact absurd rfl h | rfl

@[simp] theorem Pair.get_map (b : Bool) (f : Channel → Channel) (pr : Pair) : (pr.map f).get b = f (pr.get b) := by
  cases b <;> rfl

theorem chan_index_ext {c c' : Nat} (h : pairOf c = pairOf c') (h' : isLeft c = isLeft c') : c = c' := by
  simp only [pairOf] at h
  have h2 : c % 2 = 0 ↔ c' % 2 = 0 := by
    simpa [isLeft, beq_eq_beq] using h'
  omega

@[simp] theorem State.setChan_numPairs (s : State) (c : Nat) (ch : Channel) : (s.setChan c ch).numPairs = s.numPairs := by
  simp [State.numPairs]

@[simp] theorem State.setPair_numPairs (s : State) (p : Nat) (pr : Pair) : (s.setPair p pr).numPairs = s.numPairs := by
  simp [State.numPairs]

@[simp] theorem State.writeChanReg_numPairs (s : State) (c : Nat) (r : ChReg) (d : Word) :
    (s.writeChanReg c r d).numPairs = s.numPairs := by
  unfold State.writeChanReg
  split <;> simp

@[simp] theorem State.tick_numPairs (wave : WaveFn) (s : State) : (s.tick wave).numPairs = s.numPairs := by
  simp [State.numPairs]

@[simp] theorem State.tickIfDue_numPairs (wave : WaveFn) (s : State) : (s.tickIfDue wave).numPairs = s.numPairs := by
  unfold State.tickIfDue
  split <;> simp

/-- Phase B steps each pair (45_mixer_control.md R153). -/
theorem State.phaseB_pairs (wave : WaveFn) (s : State) :
    (s.phaseB wave).pairs = s.pairs.map (fun pr => (pr.step wave s.histLen).1) := by
  simp only [State.phaseB, State.mix, State.emit, List.map_map]
  rfl

@[simp] theorem State.phaseB_numPairs (wave : WaveFn) (s : State) : (s.phaseB wave).numPairs = s.numPairs := by
  simp [State.numPairs, State.phaseB_pairs]

/-- Phase B appends the pair that OUT_L and OUT_R then hold (R154, R155). -/
theorem State.phaseB_out (wave : WaveFn) (s : State) :
    (s.phaseB wave).out = s.out ++ [((s.phaseB wave).outL, (s.phaseB wave).outR)] := rfl

@[simp] theorem State.takeCallback_numPairs (s : State) : s.takeCallback.numPairs = s.numPairs := rfl

@[simp] theorem State.phaseA_numPairs (wave : WaveFn) (s : State) : (s.phaseA wave).numPairs = s.numPairs := by
  unfold State.phaseA
  split <;> simp

/-- A channel exists exactly when its index is below NUM_CH (10_state.md R30). -/
theorem State.chan?_isSome (s : State) (c : Nat) : (s.chan? c).isSome = true ↔ c < 2 * s.numPairs := by
  simp only [State.chan?, State.numPairs, pairOf, Option.isSome_map]
  rw [← Option.ne_none_iff_isSome, ne_eq, List.getElem?_eq_none_iff]
  omega

/-- The channel just replaced. -/
theorem State.chan?_setChan_same {s : State} {c : Nat} {ch : Channel} (h : c < 2 * s.numPairs) :
    (s.setChan c ch).chan? c = some ch := by
  have h' : pairOf c < s.pairs.length := by
    simp only [pairOf, State.numPairs] at h ⊢
    omega
  simp [State.chan?, List.getElem?_eq_getElem h']

/-- The other channels when one is replaced. -/
theorem State.chan?_setChan_other {s : State} {c c' : Nat} {ch : Channel} (h : c' ≠ c) :
    (s.setChan c ch).chan? c' = s.chan? c' := by
  simp only [State.chan?, State.setChan_pairs, List.getElem?_modify]
  by_cases hp : pairOf c = pairOf c'
  · have hs : isLeft c' ≠ isLeft c := fun e => h (chan_index_ext hp.symm e)
    simp only [hp, if_true]
    cases s.pairs[pairOf c']? <;> simp [Pair.get_set_other hs]
  · simp [hp]

/-- Replacing a channel twice. -/
theorem State.setChan_setChan (s : State) (c : Nat) (a b : Channel) : (s.setChan c a).setChan c b = s.setChan c b := by
  simp only [State.setChan, List.modify_modify_eq]
  congr 2
  funext pr
  simp only [Function.comp]
  cases isLeft c <;> rfl

/-- States that differ in their pairs alone, with equal channels, are equal. -/
theorem State.eq_of_chan? {s t : State} (h : t = { s with pairs := t.pairs }) (h' : ∀ c, t.chan? c = s.chan? c) : t = s := by
  have : t.pairs = s.pairs := by
    apply List.ext_getElem?
    intro i
    have h0 := h' (2 * i)
    have h1 := h' (2 * i + 1)
    simp only [State.chan?, pairOf, isLeft, show 2 * i / 2 = i by omega, show (2 * i + 1) / 2 = i by omega,
      show 2 * i % 2 = 0 by omega, show (2 * i + 1) % 2 = 1 by omega] at h0 h1
    revert h0 h1
    generalize t.pairs[i]? = a
    generalize s.pairs[i]? = b
    intro h0 h1
    rcases a with _ | ⟨a1, a2⟩ <;> rcases b with _ | ⟨b1, b2⟩
    · rfl
    · cases h0
    · cases h0
    · cases h0
      cases h1
      rfl
  rw [h, this]

/-- A channel of a state whose pairs were all changed by one function on channels. -/
theorem State.chan?_map {s t : State} {f : Channel → Channel} (h : t.pairs = s.pairs.map (Pair.map f)) (c : Nat) :
    t.chan? c = (s.chan? c).map f := by
  simp only [State.chan?, h, List.getElem?_map]
  cases s.pairs[pairOf c]? <;> simp

/-! ### Meanings of one shape -/

/-- All that an operation on one channel does: the machine has the channel, and it alone is replaced. -/
theorem onChan_cases {c : Nat} {f : Channel → Channel} {s t : State} (h : onChan c f s = .next t) :
    ∃ ch, s.chan? c = some ch ∧ t = s.setChan c (f ch) := by
  unfold onChan at h
  split at h
  · rename_i ch hc
    exact ⟨ch, hc, by cases h; rfl⟩
  · cases h

theorem onChan_next {c : Nat} (f : Channel → Channel) {s : State} {ch : Channel} (h : s.chan? c = some ch) :
    onChan c f s = .next (s.setChan c (f ch)) := by
  unfold onChan
  rw [h]

theorem onChan_absent {c : Nat} (f : Channel → Channel) {s : State} (h : s.chan? c = none) :
    onChan c f s = .fault (.absentChannel c) := by
  unfold onChan
  rw [h]

/-- All that a pair step does: the machine has the pair, it alone is replaced, and its outputs are returned. -/
theorem onPair_cases {p : Nat} {f : Pair → Pair × (Sample × Sample)} {s t : State} (h : onPair p f s = .next t) :
    ∃ pr, s.pairs[p]? = some pr ∧ t = (s.setPair p (f pr).1).returning [(f pr).2.1, (f pr).2.2] := by
  unfold onPair at h
  split at h
  · rename_i pr hp
    exact ⟨pr, hp, by cases h; rfl⟩
  · cases h

theorem onPair_next {p : Nat} (f : Pair → Pair × (Sample × Sample)) {s : State} {pr : Pair}
    (h : s.pairs[p]? = some pr) :
    onPair p f s = .next ((s.setPair p (f pr).1).returning [(f pr).2.1, (f pr).2.2]) := by
  unfold onPair
  rw [h]

/-- A host write to a channel register that the machine has. -/
theorem State.writeChanReg_some {s : State} {c : Nat} {ch : Channel} (h : s.chan? c = some ch) (r : ChReg) (d : Word) :
    s.writeChanReg c r d = s.setChan c (ch.writeReg d r) := by
  unfold State.writeChanReg
  rw [h]

/-- A host write to an absent channel is ignored. -/
theorem State.writeChanReg_none {s : State} {c : Nat} (h : s.chan? c = none) (r : ChReg) (d : Word) :
    s.writeChanReg c r d = s := by
  unfold State.writeChanReg
  rw [h]

/-- Every channel after a host write: unchanged, or the written one. -/
theorem State.chan?_writeChanReg (s : State) (c : Nat) (r : ChReg) (d : Word) (c' : Nat) :
    (s.writeChanReg c r d).chan? c' = if c' = c then (s.chan? c').map (Channel.writeReg · d r) else s.chan? c' := by
  cases h : s.chan? c with
  | none =>
    rw [State.writeChanReg_none h]
    split
    · rename_i e
      simp [e, h]
    · rfl
  | some ch =>
    rw [State.writeChanReg_some h]
    split
    · rename_i e
      subst e
      rw [State.chan?_setChan_same ((s.chan?_isSome c').mp (by simp [h])), h]
      rfl
    · rename_i e
      exact State.chan?_setChan_other e

/-! ### Pairs kept safe -/

/-- Replacing a safe channel by a safe channel keeps the pairs safe. -/
theorem safe_setChan {s : State} {n c : Nat} {ch : Channel} (h : s.pairs.all (Pair.safe n) = true)
    (hc : ch.safe n = true) : (s.setChan c ch).pairs.all (Pair.safe n) = true := by
  simp only [List.all_eq_true] at h ⊢
  intro pr hpr
  rw [State.setChan_pairs] at hpr
  obtain ⟨i, hi⟩ := List.getElem?_of_mem hpr
  rw [List.getElem?_modify] at hi
  cases hs : s.pairs[i]? with
  | none => simp [hs] at hi
  | some q =>
    have hq := h q (List.mem_of_getElem? hs)
    simp only [hs, Option.map_some, Option.map_eq_map] at hi
    split at hi
    · cases hi
      simp only [Pair.safe, Bool.and_eq_true] at hq ⊢
      cases isLeft c <;> simp [Pair.set, hq, hc]
    · cases hi
      exact hq

/-- The channels of safe pairs are safe. -/
theorem safe_of_chan? {s : State} {n c : Nat} {ch : Channel} (h : s.pairs.all (Pair.safe n) = true)
    (hc : s.chan? c = some ch) : ch.safe n = true := by
  simp only [State.chan?, Option.map_eq_some_iff] at hc
  obtain ⟨pr, hp, rfl⟩ := hc
  have := List.all_eq_true.mp h pr (List.mem_of_getElem? hp)
  simp only [Pair.safe, Bool.and_eq_true] at this
  cases isLeft c <;> simp [Pair.get, this]

/-- A host write keeps the pairs safe: no field that safety reads is writable. -/
theorem safe_writeChanReg {s : State} {n : Nat} (h : s.pairs.all (Pair.safe n) = true) (c : Nat) (r : ChReg)
    (d : Word) : (s.writeChanReg c r d).pairs.all (Pair.safe n) = true := by
  cases hc : s.chan? c with
  | none => rwa [State.writeChanReg_none hc]
  | some ch =>
    rw [State.writeChanReg_some hc]
    exact safe_setChan h (Channel.safe_congr (safe_of_chan? h hc) (by simp) (by simp) (by simp))

end Sys2Proof.Machine
end

