-- ==== Sys2Proof/Laws/PerInstr.lean ====
section
/-! SUPPORT. A statement for every constructor of Instr: the encoded length follows 30_encoding.md R80. -/

namespace Sys2Proof.Laws.EncodedLength

/-- R80, R90: OP alone gives the number of words, one after the header when it is 10 and none otherwise; an
internal operation has no words. -/
def Statement (i : Instr) : Prop :=
  ∀ n : Nat, i.wf n = true →
    match encode i with
    | [] => i.isTransaction = false
    | hdr :: rest => i.isTransaction = true ∧ rest.length = if hdrOp hdr = 2 then 1 else 0

theorem void (op : BitVec 2) (rsv : BitVec 14) (b : Addr) (data : Option Word) : Statement (.void op rsv b data) := by
  intro n h
  simp only [Instr.wf, Bool.and_eq_true, beq_iff_eq] at h
  refine ⟨rfl, ?_⟩
  cases data <;> simp_all

theorem nop (b : Addr) : Statement (.nop b) := by
  intro n _
  exact ⟨rfl, by simp⟩

theorem read (b : Addr) : Statement (.read b) := by
  intro n _
  exact ⟨rfl, by simp⟩

theorem writeCtrl (d : Word) : Statement (.writeCtrl d) := by
  intro n _
  exact ⟨rfl, by simp⟩

theorem writeSeqAck (d : Word) : Statement (.writeSeqAck d) := by
  intro n _
  exact ⟨rfl, by simp⟩

theorem writeSampleRate (d : Word) : Statement (.writeSampleRate d) := by
  intro n _
  exact ⟨rfl, by simp⟩

theorem writePair (p : Nat) (r : ChReg) (d : Word) : Statement (.writePair p r d) := by
  intro n _
  exact ⟨rfl, by simp⟩

theorem writeReg (t : RegTarget) (d : Word) : Statement (.writeReg t d) := by
  intro n _
  exact ⟨rfl, by simp⟩

theorem writeIgnored (b : Addr) (d : Word) : Statement (.writeIgnored b d) := by
  intro n _
  exact ⟨rfl, by simp⟩

theorem reset : Statement (.reset) := by
  intro n _
  exact rfl

theorem outputStepA : Statement (.outputStepA) := by
  intro n _
  exact rfl

theorem tick : Statement (.tick) := by
  intro n _
  exact rfl

theorem chTickSlide (c : Nat) : Statement (.chTickSlide c) := by
  intro n _
  exact rfl

theorem chTickFade (c : Nat) : Statement (.chTickFade c) := by
  intro n _
  exact rfl

theorem envIdle (c : Nat) : Statement (.envIdle c) := by
  intro n _
  exact rfl

theorem envRelease (c : Nat) : Statement (.envRelease c) := by
  intro n _
  exact rfl

theorem envAttack (c : Nat) : Statement (.envAttack c) := by
  intro n _
  exact rfl

theorem envDecay (c : Nat) : Statement (.envDecay c) := by
  intro n _
  exact rfl

theorem envSustain (c : Nat) : Statement (.envSustain c) := by
  intro n _
  exact rfl

theorem lfoTrem (c : Nat) : Statement (.lfoTrem c) := by
  intro n _
  exact rfl

theorem lfoVib (c : Nat) : Statement (.lfoVib c) := by
  intro n _
  exact rfl

theorem dreqNone (c : Nat) : Statement (.dreqNone c) := by
  intro n _
  exact rfl

theorem dreqTicks (c : Nat) : Statement (.dreqTicks c) := by
  intro n _
  exact rfl

theorem dreqNote (c : Nat) : Statement (.dreqNote c) := by
  intro n _
  exact rfl

theorem dreqRsvd (c : Nat) : Statement (.dreqRsvd c) := by
  intro n _
  exact rfl

theorem chTickWidth (c : Nat) : Statement (.chTickWidth c) := by
  intro n _
  exact rfl

theorem chTickPeriod (c : Nat) : Statement (.chTickPeriod c) := by
  intro n _
  exact rfl

theorem seqRequest : Statement (.seqRequest) := by
  intro n _
  exact rfl

theorem outputStepB : Statement (.outputStepB) := by
  intro n _
  exact rfl

theorem ncoAdvance (c : Nat) : Statement (.ncoAdvance c) := by
  intro n _
  exact rfl

theorem voiceScale (c : Nat) (s : Sample) : Statement (.voiceScale c s) := by
  intro n _
  exact rfl

theorem dfStep (c : Nat) (x : Sample) : Statement (.dfStep c x) := by
  intro n _
  exact rfl

theorem pairStereo (p : Nat) : Statement (.pairStereo p) := by
  intro n _
  exact rfl

theorem pairPm (p : Nat) : Statement (.pairPm p) := by
  intro n _
  exact rfl

theorem pairAm (p : Nat) : Statement (.pairAm p) := by
  intro n _
  exact rfl

theorem pairSync (p : Nat) : Statement (.pairSync p) := by
  intro n _
  exact rfl

theorem pairStep (p : Nat) : Statement (.pairStep p) := by
  intro n _
  exact rfl

theorem mix (outs : List (Sample × Sample)) : Statement (.mix outs) := by
  intro n _
  exact rfl

theorem emit (l : Sample) (r : Sample) : Statement (.emit l r) := by
  intro n _
  exact rfl

end Sys2Proof.Laws.EncodedLength
end

