-- ==== Sys2Proof/Laws/Safety.lean ====
section
/-! SUPPORT. The safety predicates as propositions, for proofs that take them apart. -/

namespace Sys2Proof.Machine

/-- 10_state.md R54(1) as a proposition. -/
theorem State.onSchedule_iff (s : State) :
    s.onSchedule = true ↔
      s.count.toNat ≤ s.nextTick.toNat ∧ (s.midStep = true → s.count.toNat < s.nextTick.toNat) := by
  unfold State.onSchedule
  cases s.midStep <;> simp

/-- The safe states, clause by clause. -/
theorem State.safe_iff (s : State) :
    s.safe = true ↔
      ((1 ≤ s.numPairs ∧ s.numPairs ≤ 56) ∧ 2 ≤ s.histLog2 ∧ s.histLog2 ≤ 24) ∧
      s.pairs.all (Pair.safe s.histLen) = true ∧ s.statusOk = true ∧
      s.count = BitVec.ofNat 64 s.out.length ∧ s.out.getLast?.getD (0, 0) = (s.outL, s.outR) := by
  simp only [State.safe, State.paramsOk, Config.numPairsOk, Config.histLog2Ok, State.countOk, State.outOk,
    Bool.and_eq_true, decide_eq_true_eq, beq_iff_eq, and_assoc]

end Sys2Proof.Machine
end

