-- ==== Sys2Proof/Laws/Step.lean ====
section
/-! SUPPORT. What one step can do, said once: the inversion of the fetch, of the transactions' meanings and of the step; every invariant is derived from these. -/

namespace Sys2Proof.Machine

/-- All that a host transaction can do to the state (46_host_interface.md R160 to R167). -/
theorem transaction_cases {i : Instr} {s t : State} (hi : i.isTransaction = true) (h : exec i s = .next t) :
    t = s ∨ (∃ v, t = s.respond v) ∨ (∃ b, t = s.writeRun b) ∨ t = s.returnFromCallback ∨
      (∃ d, s.started = false ∧ t = { s with sampleRate := d }) ∨ (∃ d, t = { s with bpm := d }) ∨
      (∃ d, t = { s with tickRate := d }) ∨ (∃ d, t = { s with tickSpeed := d }) ∨
      (∃ c r d, t = s.writeChanReg c r d) ∨
      (∃ c c' r d, t = (s.writeChanReg c r d).writeChanReg c' r d) := by
  cases i with
  | void op rsv b data =>
    simp only [exec, execVoid] at h
    split at h <;> cases h
    · exact .inr (.inl ⟨0, rfl⟩)
    · exact .inl rfl
  | nop b => cases h; exact .inl rfl
  | read b => cases h; exact .inr (.inl ⟨_, rfl⟩)
  | writeCtrl d => cases h; exact .inr (.inr (.inl ⟨_, rfl⟩))
  | writeSeqAck d => cases h; exact .inr (.inr (.inr (.inl rfl)))
  | writeSampleRate d =>
    cases hs : s.started <;> simp only [exec, execWriteSampleRate, hs] at h <;> cases h
    · exact .inr (.inr (.inr (.inr (.inl ⟨d, rfl, rfl⟩))))
    · exact .inl rfl
  | writePair p r d => cases h; exact .inr (.inr (.inr (.inr (.inr (.inr (.inr (.inr (.inr ⟨_, _, r, d, rfl⟩))))))))
  | writeReg tg d =>
    cases tg <;> cases h
    · exact .inr (.inr (.inr (.inr (.inr (.inl ⟨d, rfl⟩)))))
    · exact .inr (.inr (.inr (.inr (.inr (.inr (.inl ⟨d, rfl⟩))))))
    · exact .inr (.inr (.inr (.inr (.inr (.inr (.inr (.inl ⟨d, rfl⟩)))))))
    · exact .inr (.inr (.inr (.inr (.inr (.inr (.inr (.inr (.inl ⟨_, _, d, rfl⟩))))))))
  | writeIgnored b d => cases h; exact .inl rfl
  | _ => cases hi

/-- All that a turn of the core finds to do (45_mixer_control.md R150). -/
theorem coreTurn_cases (s : State) :
    (coreTurn s = .hold s ∧ s.enabledOp = none) ∨
      (coreTurn s = .run .outputStepA s ∧ s.run = true ∧ s.midStep = false ∧ s.seqPending = false) ∨
      (coreTurn s = .run .outputStepB s ∧ s.midStep = true ∧ s.seqPending = false) := by
  unfold coreTurn State.enabledOp
  cases s.seqPending <;> cases s.midStep <;> cases s.run <;> simp

/-- A host transaction is fetched only from words that decode to one. -/
theorem hostTurn_run {ws : List Word} {s s' : State} {i : Instr} (h : hostTurn ws s = .run i s') :
    decode s.numPairs ws = .ok (i, []) ∧ s' = s := by
  unfold hostTurn at h
  split at h
  · rename_i e
    cases h
    exact ⟨e, rfl⟩
  · cases h
  · cases h

/-- A host turn never holds the state. -/
theorem hostTurn_hold {ws : List Word} {s s' : State} : hostTurn ws s ≠ .hold s' := by
  unfold hostTurn
  split <;> simp

/-- ONE STEP: from the state `s'` with the head of the agenda removed, the machine holds, resets, runs phase A or
phase B, or runs a host transaction. -/
theorem step_cases {s t : State} (h : step s = .next t) :
    ∃ a, let s' : State := { s with agenda := a }
      t = s' ∨ (s.agenda = .resetLine :: a ∧ t = s'.resetCore) ∨
      (s.run = true ∧ s.midStep = false ∧ s.seqPending = false ∧ t = s'.phaseA Config.waveFn) ∨
      (s.midStep = true ∧ s.seqPending = false ∧ t = s'.phaseB Config.waveFn) ∨
      (∃ i ws, s.agenda = .txn ws :: a ∧ decode s.numPairs ws = .ok (i, []) ∧ exec i s' = .next t) := by
  have core : ∀ a, (match coreTurn { s with agenda := a } with
      | .run i s' => exec i s'
      | .hold s' => .next s'
      | .reject r => .refused r) = Host.Outcome.next t → ∃ a, let s' : State := { s with agenda := a }
      t = s' ∨ (s.agenda = .resetLine :: a ∧ t = s'.resetCore) ∨
      (s.run = true ∧ s.midStep = false ∧ s.seqPending = false ∧ t = s'.phaseA Config.waveFn) ∨
      (s.midStep = true ∧ s.seqPending = false ∧ t = s'.phaseB Config.waveFn) ∨
      (∃ i ws, s.agenda = .txn ws :: a ∧ decode s.numPairs ws = .ok (i, []) ∧ exec i s' = .next t) := by
    intro a ha
    refine ⟨a, ?_⟩
    rcases coreTurn_cases { s with agenda := a } with ⟨e, _⟩ | ⟨e, h1, h2, h3⟩ | ⟨e, h1, h2⟩ <;> rw [e] at ha <;>
      cases ha
    · exact .inl rfl
    · exact .inr (.inr (.inl ⟨h1, h2, h3, rfl⟩))
    · exact .inr (.inr (.inr (.inl ⟨h1, h2, rfl⟩)))
  unfold step fetch at h
  split at h <;> rename_i hf
  all_goals
    split at hf
    · rename_i ha
      exact core s.agenda (by simp [hf, h])
    · rename_i rest ha
      exact core rest (by simp [hf, h])
    · rename_i rest ha
      cases hf <;> (cases h; exact ⟨rest, .inr (.inl ⟨ha, rfl⟩)⟩)
    · rename_i ws rest ha
      first
        | exact absurd hf hostTurn_hold
        | cases h
        | (obtain ⟨hd, rfl⟩ := hostTurn_run hf
           exact ⟨rest, .inr (.inr (.inr (.inr ⟨_, ws, ha, hd, h⟩)))⟩)

end Sys2Proof.Machine
end

