-- ==== Sys2Proof/Tests/Slice0.lean ====
section
/-! SUPPORT. The model's own tests: ill-formed terms refused, words of the spec decoded, one step of each instruction on the numbers of 95_test_vectors.md, and a witness for the hypotheses of every statement that has some. -/

namespace Sys2Proof.Tests

open Sys2Proof.Machine Sys2Proof.Statements

/-! ### Helpers -/

/-- 95_test_vectors.md section 1: the test waveform generator TW. -/
def tw : WaveFn := fun sel ph =>
  if sel.toNat = 0 then BitVec.ofInt 16 ((ph.toNat % 65536 : Nat) - 32768)
  else if sel.toNat = 1 then (if ph.getLsbD 15 then 0x8000 else 0x7FFF)
  else if sel.toNat = 2 then 0x4000
  else if sel.toNat = 3 then 0x7FFF
  else 0

/-- A core with one pair and histories of 16 entries, after reset. -/
def small : State := State.resetWith 1 4

/-- The same with channel 0 replaced. -/
def with0 (ch : Channel) : State := small.setChan 0 ch

/-- A channel after reset. -/
def ch0 : Channel := Channel.reset

/-- What is seen of the outcome of an instruction or a step, if it is a next state. -/
def seen {α : Type} (f : State → α) : Host.Outcome State Fault Refusal → Option α
  | .next s => some (f s)
  | _ => none

/-- Why an instruction or a step stops, if it does. -/
def stop : Host.Outcome State Fault Refusal → Option (Fault ⊕ Refusal)
  | .next _ => none
  | .fault r => some (.inl r)
  | .refused r => some (.inr r)

/-- A value of channel `c`. -/
def ofChan {α : Type} (c : Nat) (f : Channel → α) (s : State) : Option α := (s.chan? c).map f

/-- One step on a host transaction given by its words. -/
def bus (ws : List Word) (s : State) : Host.Outcome State Fault Refusal := step { s with agenda := [.txn ws] }

/-! ### Well-formedness: one ill-formed term for each check -/

theorem test_wf_void_of_a_valid_header : Instr.wf 4 (.void 1 0 0x1008 none) = false := by decide
theorem test_wf_void_write_without_data : Instr.wf 4 (.void 2 1 0x1008 none) = false := by decide
theorem test_wf_void_read_with_data : Instr.wf 4 (.void 1 1 0x1008 (some 0)) = false := by decide
theorem test_wf_nop_misaligned : Instr.wf 4 (.nop 2) = false := by decide
theorem test_wf_read_misaligned : Instr.wf 4 (.read 0x1001) = false := by decide
theorem test_wf_writePair_absent : Instr.wf 4 (.writePair 4 .note 0) = false := by decide
theorem test_wf_writePair_read_only : Instr.wf 4 (.writePair 0 .period 0) = false := by decide
theorem test_wf_writeReg_absent : Instr.wf 4 (.writeReg (.chan 8 .note) 0) = false := by decide
theorem test_wf_writeReg_read_only : Instr.wf 4 (.writeReg (.chan 0 .phase) 0) = false := by decide
theorem test_wf_writeIgnored_misaligned : Instr.wf 4 (.writeIgnored 0x1022 0) = false := by decide
theorem test_wf_writeIgnored_writable : Instr.wf 4 (.writeIgnored 0x1008 0) = false := by decide
theorem test_wf_absent_channel :
    ([.chTickSlide 8, .chTickFade 8, .envIdle 8, .envRelease 8, .envAttack 8, .envDecay 8, .envSustain 8, .lfoTrem 8,
      .lfoVib 8] : List Instr).all (fun i => !i.wf 4) = true := by decide
theorem test_wf_absent_channel_too :
    ([.dreqNone 8, .dreqTicks 8, .dreqNote 8, .dreqRsvd 8, .chTickWidth 8, .chTickPeriod 8, .ncoAdvance 8,
      .voiceScale 8 0, .dfStep 8 0] : List Instr).all (fun i => !i.wf 4) = true := by decide
theorem test_wf_absent_pair :
    ([.pairStereo 4, .pairPm 4, .pairAm 4, .pairSync 4, .pairStep 4] : List Instr).all (fun i => !i.wf 4) = true := by
  decide
theorem test_wf_mix_count : Instr.wf 4 (.mix [(0, 0)]) = false := by decide
theorem test_wf_last_channel_and_pair :
    ([.writeReg (.chan 7 .vibPhase) 0, .writePair 3 .mode 0, .dfStep 7 0, .pairStep 3, .writeIgnored 0x1820 0] :
      List Instr).all (fun i => i.wf 4) = true := by decide

/-! ### Decoding: words written out from 30_encoding.md R81, R85 and the tables of 95_test_vectors.md section 13 -/

/-- OP 01, RSV 0, BADDR 0x1002, which is misaligned: 0100 0000 0000 0000 0001 0000 0000 0010. -/
theorem test_decode_void_misaligned :
    decode 4 [0b01000000000000000001000000000010] = .ok (.void 1 0 0x1002 none, []) := by decide
/-- OP 10 with RSV 1: two words all the same. -/
theorem test_decode_void_write : decode 4 [0x80011408, 0x3C0000] = .ok (.void 2 1 0x1408 (some 0x3C0000), []) := by
  decide
/-- OP 00, BADDR 0x1234. -/
theorem test_decode_nop : decode 4 [0b00000000000000000001001000110100] = .ok (.nop 0x1234, []) := by decide
/-- OP 01, block 0x10 + 7, offset 0x1C. -/
theorem test_decode_read : decode 4 [0b01000000000000000001011100011100] = .ok (.read 0x171C, []) := by decide
theorem test_decode_writeCtrl : decode 4 [0x80000008, 3] = .ok (.writeCtrl 3, []) := by decide
theorem test_decode_writeSeqAck : decode 4 [0x80000010, 7] = .ok (.writeSeqAck 7, []) := by decide
theorem test_decode_writeSampleRate : decode 4 [0x80000014, 0x7D00] = .ok (.writeSampleRate 32000, []) := by decide
/-- OP 10, BADDR[15] = 1, BADDR[14:8] = 3, offset 0x14. -/
theorem test_decode_writePair :
    decode 4 [0b10000000000000001000001100010100, 0x4000] = .ok (.writePair 3 .postVol 0x4000, []) := by decide
/-- OP 10, BADDR[14:8] = 0x10 + 1, offset 0x84. -/
theorem test_decode_writeReg :
    decode 4 [0b10000000000000000001000110000100, 0x12345] = .ok (.writeReg (.chan 1 .vibPhase) 0x12345, []) := by
  decide
theorem test_decode_writeReg_global : decode 4 [0x80000018, 240] = .ok (.writeReg .bpm 240, []) := by decide
/-- The same word is a register on a core with five pairs and absent on one with four. -/
theorem test_decode_absent_pair :
    decode 4 [0x80008414, 1] = .ok (.writeIgnored 0x8414 1, []) ∧
      decode 5 [0x80008414, 1] = .ok (.writePair 4 .postVol 1, []) := by decide
theorem test_decode_writeIgnored : decode 4 [0x8000181C, 1] = .ok (.writeIgnored 0x181C 1, []) := by decide
theorem test_decode_stream :
    decode 4 [0x40000018, 0x80000018, 5] = .ok (.read 0x18, [0x80000018, 5]) := by decide
theorem test_decode_rejects : decode 4 [] = .error .noHeader ∧ decode 4 [0x80001008] = .error .noData := by decide
/-- Little-endian (20_memory.md R64): `wr ch1.LENGTH, 0x8000` as bytes. -/
theorem test_decode_bytes :
    decodeBytes 4 [0x1C, 0x11, 0x00, 0x80, 0x00, 0x80, 0x00, 0x00] = .ok (.writeReg (.chan 1 .length) 0x8000, []) := by
  decide
theorem test_encode_writeReg : encode (.writeReg (.chan 1 .length) 0x8000) = [0x8000111C, 0x8000] := by decide
/-- 30_encoding.md R93, R94: the selectors of internal operations. -/
theorem test_select_pair : [0, 1, 2, 3].map (fun m => selectPair m 2) = [.pairStereo 2, .pairPm 2, .pairAm 2, .pairSync 2] := by
  decide
theorem test_select_dreq :
    ([0x00000005, 0x40000003, 0x80000001, 0xC0000005] : List Word).map (fun q => selectDreq q 1) =
      [.dreqNone 1, .dreqTicks 1, .dreqNote 1, .dreqRsvd 1] := by decide
/-- 30_encoding.md R92: the first condition that holds. -/
theorem test_select_env :
    [selectEnv ch0 0, selectEnv { ch0 with release := 1 } 0,
      selectEnv { ch0 with release := 1, noteOn := true, attack := 1, peak := 1 } 0,
      selectEnv { ch0 with release := 1, noteOn := true, preVol := 1 } 0, selectEnv { ch0 with release := 1, noteOn := true } 0] =
      [.envIdle 0, .envRelease 0, .envAttack 0, .envDecay 0, .envSustain 0] := by decide
theorem test_table_word :
    decodeTableWord 64 0x1000000080000008 = some (.writeCtrl 0x10000000) ∧
      decodeTableWord 32 0x40001008 = some (.read 0x1008) ∧ decodeTableWord 2 3 = some (.pairSync 0) := by decide

/-! ### Host transactions (95_test_vectors.md table 13.1) -/

theorem test_void_read_returns_zero : seen State.resp (bus [0x40001002] small) = some [0] := by decide
theorem test_void_op3_returns_nothing : seen id (bus [0xC0001008] small) = some small := by decide
theorem test_nop : seen id (bus [0x00001234] small) = some small := by decide
theorem test_read_config : seen State.resp (bus [0x40000004] State.reset) = some [0x00001104] := by decide
theorem test_read_avg_sign : seen State.resp (bus [0x40001034] (with0 { ch0 with avg := 0x8000 })) = some [0xFFFF8000] := by
  decide
theorem test_writeCtrl_run :
    seen (fun s => (s.ctrlWord, s.statusWord)) (bus [0x80000008, 3] small) = some (1, 1) := by decide
theorem test_writeCtrl_stop :
    seen (fun s => (s.ctrlWord, s.statusWord)) (bus [0x80000008, 0xFFFFFFFE] { small with run := true, started := true }) =
      some (0, 1) := by decide
theorem test_writeSeqAck :
    seen State.statusWord (bus [0x80000010, 0] { small with started := true, seqPending := true, midStep := true }) =
      some 5 := by decide
theorem test_writeSeqAck_none_pending : seen id (bus [0x80000010, 0] small) = some small := by decide
theorem test_writeSampleRate : seen State.sampleRate (bus [0x80000014, 0xAC44] small) = some 44100 := by decide
theorem test_writeSampleRate_locked :
    seen State.sampleRate (bus [0x80000014, 0x7D00] { small with started := true }) = some 48000 := by decide
theorem test_writePair :
    seen (fun s => (ofChan 0 Channel.postVol s, ofChan 1 Channel.postVol s)) (bus [0x80008014, 0x4000] small) =
      some (some 0x4000, some 0x4000) := by decide
theorem test_writeReg_mode : seen (ofChan 0 Channel.mode) (bus [0x80001004, 0xFFFFFFFE] small) = some (some 2) := by decide
theorem test_writeReg_trem_phase :
    seen (ofChan 1 Channel.tremPhase) (bus [0x80001170, 0x00012345] small) = some (some 0x2345) := by decide
theorem test_writeIgnored_phase : seen id (bus [0x80001020, 5] small) = some small := by decide
theorem test_writeIgnored_absent : seen id (bus [0x8000181C, 1] State.reset) = some State.reset := by decide

/-! ### Reset -/

theorem test_reset_reads :
    ([0x0014, 0x0018, 0x001C, 0x0020, 0x1308, 0x1314, 0x131C, 0x1330, 0x133C, 0x1310] : List Addr).map State.reset.readAddr =
      [48000, 120, 24, 6, 0x003C0000, 0x8000, 0x10000, 1, 0x10000, 0] := by decide
theorem test_reset_over_a_callback :
    seen (fun s => (s.seqIrq, s.statusWord, s.out)) (step { small with
      run := true, started := true, seqPending := true, midStep := true, out := [(1, 1)], agenda := [.resetLine] }) =
      some (false, 0, []) := by decide
theorem test_reset_memory_canonical :
    State.reset.pairs.all (fun pr => pr.left.hist.wf && pr.right.hist.wf) = true := by decide

/-! ### The tick (95_test_vectors.md sections 5 to 8) -/

/-- 41_tick_scheduler.md R110, the example: from reset the first tick leaves NEXT_TICK 1000 and TICK_COUNTER 1. -/
theorem test_tick_globals : seen (fun s => (s.nextTick, s.tickCounter, s.count)) (exec .tick small) = some (1000, 1, 0) := by
  decide
/-- From reset one TICK gives PERIOD 357 on every channel. -/
theorem test_tick_period :
    (small.tick tw).pairs.map (fun pr => (pr.left.period, pr.right.period)) = [(357, 357)] := by decide
theorem test_tickInterval :
    ([(48000, 120, 24), (44100, 120, 24), (48000, 0, 24), (1, 120, 24), (4294967295, 1, 1), (48000, 7, 24)] :
      List (Word × Word × Word)).map (fun e => tickInterval e.1 e.2.1 e.2.2) = [1000, 918, 1, 1, 257698037700, 17142] := by
  decide
theorem test_slide_wraps :
    seen (ofChan 0 Channel.note) (exec (.chTickSlide 0) (with0 { ch0 with note := 0x7FFFFFFF, slide := 1 })) =
      some (some 0x80000000) := by decide
theorem test_slide_down :
    seen (ofChan 0 Channel.note) (exec (.chTickSlide 0) (with0 { ch0 with slide := 0xFFFF0000 })) = some (some 0x003B0000) := by
  decide
theorem test_fade_floor :
    seen (ofChan 0 Channel.postVol) (exec (.chTickFade 0) (with0 { ch0 with postVol := 0x2000, fade := 0xFFFFD000 })) =
      some (some 0) := by decide
theorem test_fade_cap :
    seen (ofChan 0 Channel.postVol) (exec (.chTickFade 0) (with0 { ch0 with postVol := 0x7FFF0000, fade := 0x7FFFFFFF })) =
      some (some 0x7FFFFFFF) := by decide
theorem test_envIdle :
    seen (ofChan 0 Channel.preVol) (exec (.envIdle 0) (with0 { ch0 with preVol := 0x9000 })) = some (some 0x9000) := by decide
theorem test_env_idle_counts :
    let ch := Channel.env { ch0 with release := 0xFFFFFFFB, preVol := 0x9000 }
    (ch.preVol, ch.envPos) = (0x9000, 1) := by decide
theorem test_envRelease :
    seen (ofChan 0 Channel.preVol) (exec (.envRelease 0) (with0 { ch0 with release := 0x2000, preVol := 0x3000 })) =
      some (some 0x1000) := by decide
theorem test_envRelease_negative :
    seen (ofChan 0 Channel.preVol) (exec (.envRelease 0) (with0 { ch0 with release := 0x2000, preVol := 0xFFFFFB00 })) =
      some (some 0) := by decide
theorem test_envAttack_caps :
    seen (ofChan 0 Channel.preVol) (exec (.envAttack 0) (with0 { ch0 with attack := 0x4000, preVol := 0xE000 })) =
      some (some 0x10000) := by decide
theorem test_envDecay_overshoots :
    seen (ofChan 0 Channel.preVol) (exec (.envDecay 0) (with0 { ch0 with decay := 0x1000, preVol := 0xC800 })) =
      some (some 0xB800) := by decide
theorem test_envDecay_negative_capped :
    seen (ofChan 0 Channel.preVol) (exec (.envDecay 0) (with0 { ch0 with decay := 0xFFFFFF00, preVol := 0x7FFFFFF0 })) =
      some (some 0x7FFFFFFF) := by decide
theorem test_envSustain :
    seen (ofChan 0 Channel.preVol) (exec (.envSustain 0) (with0 { ch0 with sustain := 0xC000, preVol := 0xB800 })) =
      some (some 0xB800) := by decide
/-- Table 7.2: ENV_POS wraps, and is compared unsigned: not Attack. -/
theorem test_env_pos_wraps :
    let ch := Channel.env { ch0 with
      release := 1, noteOn := true, attack := 0x100, peak := 0x10000, preVol := 0x100, envPos := 0xFFFFFFFF }
    (ch.preVol, ch.envPos) = (0x100, 0) := by decide
/-- Table 8.1: saw at 0x0100. -/
theorem test_lfoTrem :
    let ch := Channel.lfoTrem tw { ch0 with tremPhase := 0xFF00, tremRate := 0x200, tremDepth := 0x1000 }
    (ch.tremPhase, ch.tremLevel.toInt) = (0x0100, -4064) := by decide
/-- Table 8.1: the rate is reduced modulo 0x10000. -/
theorem test_lfoTrem_rate :
    let ch := Channel.lfoTrem tw { ch0 with tremRate := 0x10005, tremSel := 2, tremDepth := 0x10000 }
    (ch.tremPhase, ch.tremLevel.toInt) = (0x0005, 32768) := by decide
/-- Table 8.1: saw -32768, depth -2^31. -/
theorem test_lfoVib_saturates :
    (Channel.lfoVib tw { ch0 with vibDepth := 0x80000000 }).vibLevel.toInt = 2147483647 := by decide
/-- Table 8.1: negative depth rounds toward minus infinity. -/
theorem test_lfoVib_negative :
    (Channel.lfoVib tw { ch0 with vibRate := 0x1000, vibSel := 3, vibDepth := 0xFFFF0000 }).vibLevel.toInt = -65534 := by
  decide
theorem test_dreqNone :
    seen (ofChan 0 (fun ch => (ch.delay, ch.delayReq))) (exec (.dreqNone 0) (with0 { ch0 with delayReq := 5, delay := 77 })) =
      some (some (77, 0)) := by decide
theorem test_dreqRsvd :
    seen (ofChan 0 (fun ch => (ch.delay, ch.delayReq)))
      (exec (.dreqRsvd 0) (with0 { ch0 with delayReq := 0xC0000005, delay := 77 })) = some (some (77, 0)) := by decide
theorem test_dreqTicks :
    seen (ofChan 0 (fun ch => (ch.delay, ch.delayReq)))
      (exec (.dreqTicks 0) (State.reset.setChan 0 { ch0 with delayReq := 0x40000003, delay := 77 })) =
      some (some (3000, 0)) := by decide
theorem test_dreqTicks_clamps :
    seen (ofChan 0 Channel.delay) (exec (.dreqTicks 0) (with0 { ch0 with delayReq := 0x40000001, delay := 77 })) =
      some (some 8) := by decide
theorem test_dreqNote :
    seen (ofChan 0 (fun ch => (ch.delay, ch.delayReq)))
      (exec (.dreqNote 0) (State.reset.setChan 0 { ch0 with delayReq := 0x80000001, delay := 77 })) =
      some (some (24000, 0)) := by decide
theorem test_dreqNote_rate_zero :
    seen (ofChan 0 Channel.delay)
      (exec (.dreqNote 0) { with0 { ch0 with delayReq := 0x80000001, delay := 77 } with tickRate := 0 }) = some (some 0) := by
  decide
theorem test_width_low : seen (ofChan 0 Channel.filterW) (exec (.chTickWidth 0) (with0 { ch0 with filterW := 0 })) = some (some 1) := by
  decide
theorem test_width_high :
    seen (ofChan 0 Channel.filterW) (exec (.chTickWidth 0) (State.reset.setChan 0 { ch0 with filterW := 0xFFFFFFFF })) =
      some (some 65536) := by decide
theorem test_period :
    seen (ofChan 0 Channel.period) (exec (.chTickPeriod 0) (with0 { ch0 with note := 0x00450000 })) = some (some 600) := by decide
/-- Section 8: vibrato into the period. -/
theorem test_period_vibrato :
    seen (ofChan 0 Channel.period) (exec (.chTickPeriod 0) (with0 { ch0 with note := 0x00450000, vibLevel := 65534 })) =
      some (some 636) := by decide
/-- Table 5.1: floors at exact integers. -/
theorem test_periodFn_exact :
    ([1, 440, 441, 28835840, 28835841, 0] : List Word).map (periodFn 0x00450000 0x10000) = [28835840, 65536, 65387, 1, 0, 0] := by
  decide

/-! ### The pair step (95_test_vectors.md sections 3, 4, 9, 10) -/

theorem test_nco_33_bits :
    seen (ofChan 0 Channel.phase)
      (exec (.ncoAdvance 0) (with0 { ch0 with phase := 0xFFFFFFF0, period := 0x20, length := 0xFFFFFFFF })) =
      some (some 0x11) := by decide
theorem test_nco_length_zero :
    seen (ofChan 0 Channel.phase) (exec (.ncoAdvance 0) (with0 { ch0 with phase := 0x1234, period := 600, length := 0 })) =
      some (some 0) := by decide
theorem test_voice_rounds_down :
    seen State.ret (exec (.voiceScale 0 0xFFFF) (with0 { ch0 with preVol := 0x8000 })) = some [0xFFFF] := by decide
theorem test_voice_tremolo_inverts :
    seen State.ret (exec (.voiceScale 0 0x4000) (with0 { ch0 with preVol := 0x8000, tremLevel := 0xFFFF0000 })) =
      some [0xE000] := by decide
/-- Table 9.7, step 4: the full window, where `lev` is read before the write replaces it. -/
theorem test_df_full_window :
    let r := Channel.dfStep 4 500 { ch0 with
      filterW := 2, delay := 2, wet := 0x10000, dry := 0, hist := [(0, 100), (1, 200), (2, 300), (3, 400)], avg := 150 }
    (r.1.avg, r.1.cursor, r.2, r.1.hist) = (250, 1, 250, [(0, 500), (1, 200), (2, 300), (3, 400)]) := by decide
/-- Table 9.6, step 3: feedback and saturation. -/
theorem test_df_feedback :
    let r := Channel.dfStep 16 0 { ch0 with
      feedback := 0x10000, delay := 1, dry := 0x8000, wet := 0x8000, cursor := 3, avg := 20000
      hist := [(0, 20000), (1, 20000), (2, 32767)] }
    (r.1.avg, r.1.cursor, r.2, r.1.hist) = (32767, 4, 16383, [(0, 20000), (1, 20000), (2, 32767), (3, 20000)]) := by decide
theorem test_dfStep_returns : seen State.ret (exec (.dfStep 0 1234) small) = some [1234] := by decide
/-- Table 10.1, STEREO step 0. -/
theorem test_pair_stereo :
    let r := Pair.step tw 16 ⟨{ ch0 with period := 0x100, preVol := 0x10000 },
      { ch0 with period := 0x200, waveSel := 1, preVol := 0x8000 }⟩
    (r.1.left.phase, r.1.right.phase, r.2.1.toInt, r.2.2.toInt) = (0x100, 0x200, -32512, 16383) := by decide
/-- The right channel's MODE has no effect. -/
theorem test_pair_step_right_mode :
    let r := Pair.step tw 16 ⟨{ ch0 with phase := 0xFF00, period := 0x100, preVol := 0x10000 },
      { ch0 with mode := 3, phase := 0x1300, period := 0x300, preVol := 0x10000 }⟩
    (r.1.left.phase, r.1.right.phase, r.2.1.toInt, r.2.2.toInt) = (0, 0x1600, -32768, -27136) := by decide
/-- PM step 2. -/
theorem test_pair_pm :
    let r := Pair.step tw 16 ⟨{ ch0 with mode := 1, phase := 0x8000, period := 0x4000, preVol := 0x10000 },
      { ch0 with phase := 0x200, period := 0x100, preVol := 0x10000 }⟩
    (r.1.left.phase, r.1.right.phase, r.2.1.toInt, r.2.2.toInt) = (0xC000, 0x300, 16384, 16384) := by decide +kernel
/-- AM, -32768 by -32768. -/
theorem test_pair_am :
    (Pair.step tw 16 ⟨{ ch0 with mode := 2, preVol := 0x10000 }, { ch0 with preVol := 0x10000 }⟩).2 = (32767, 32767) := by
  decide
/-- SYNC step 1: the left phase reaches LENGTH. -/
theorem test_pair_sync :
    let r := Pair.step tw 16 ⟨{ ch0 with mode := 3, phase := 0xFF00, period := 0x100, preVol := 0x10000 },
      { ch0 with phase := 0x1300, period := 0x300, preVol := 0x10000 }⟩
    (r.1.left.phase, r.1.right.phase, r.2.1.toInt, r.2.2.toInt) = (0, 0, -32768, -32768) := by decide
/-- SYNC step 0: not yet. -/
theorem test_pair_sync_before :
    let r := Pair.step tw 16 ⟨{ ch0 with mode := 3, phase := 0xFE00, period := 0x100, preVol := 0x10000 },
      { ch0 with phase := 0x1000, period := 0x300, preVol := 0x10000 }⟩
    (r.1.left.phase, r.1.right.phase, r.2.1.toInt, r.2.2.toInt) = (0xFF00, 0x1300, -27904, -27904) := by decide
theorem test_pair_operations_complete :
    ([.pairStereo 0, .pairPm 0, .pairAm 0, .pairSync 0, .pairStep 0] : List Instr).all
      (fun i => (seen State.numPairs (exec i small)).isSome) = true := by decide

/-! ### The output step (95_test_vectors.md sections 11, 12) -/

/-- Table 11.1: two pairs; the sum cancels, with no early saturation. -/
theorem test_mix_cancels :
    let s := State.resetWith 2 4
    seen (fun t => (t.outL, t.outR, t.out)) (exec (.mix [(32767, 32767), (0x8000, 0x8000)])
      { s with pairs := s.pairs.map (Pair.map (fun ch => { ch with postVol := 0x10000 })) }) =
      some (0xFFFF, 0xFFFF, [(0xFFFF, 0xFFFF)]) := by decide
/-- Table 11.1: each term is shifted on its own. -/
theorem test_mix_terms : seen (fun t => (t.outL, t.outR)) (exec (.mix [(1, 0xFFFF)]) small) = some (0, 0xFFFF) := by decide
/-- 20_memory.md R64: left before right, each sample low byte first. -/
theorem test_outBytes : ({ small with out := [(0x1234, 0xFFFE), (5, 6)] }).outBytes = [0x34, 0x12, 0xFE, 0xFF, 5, 0, 6, 0] := by
  decide
theorem test_emit : seen State.out (exec (.emit 1 2) { small with out := [(3, 4)] }) = some [(3, 4), (1, 2)] := by decide
/-- 45_mixer_control.md R152, the example. -/
theorem test_seqRequest :
    seen (fun s => (s.tickCounter, s.statusWord, s.seqIrq))
      (exec .seqRequest { small with started := true, tickCounter := 6 }) = some (0, 7, true) := by decide
/-- 45_mixer_control.md R153, the example: a stereo pair of constant 0x4000 emits 0x2000 twice. -/
theorem test_phaseB_example :
    let ch := { ch0 with preVol := 0x10000, waveSel := 2 }
    let s := State.phaseB tw { small with pairs := [⟨ch, ch⟩] }
    (s.out, s.count) = ([(0x2000, 0x2000)], 1) := by decide
/-- Phase B runs although RUN was cleared during the callback (D41). -/
theorem test_phaseB_after_stop :
    seen (fun s => (s.count, s.statusWord)) (step { small with started := true, midStep := true }) = some (1, 1) := by decide
/-- Table 12.1: at TICK_SPEED 1, phase A of step 0 ticks and requests the callback. -/
theorem test_phaseA_callback :
    seen (fun s => (s.count, s.nextTick, s.tickCounter, s.statusWord))
      (step { small with run := true, started := true, tickSpeed := 1 }) = some (0, 1000, 0, 7) := by decide
/-- Without a callback phase A goes on into phase B. -/
theorem test_phaseA_through :
    seen (fun s => (s.count, s.nextTick, s.tickCounter, s.statusWord)) (step { small with run := true, started := true }) =
      some (1, 1000, 1, 1) := by decide
/-- Table 12.1: reset, no run: nothing is enabled. -/
theorem test_stopped : seen id (step small) = some small := by decide

/-! ### Placing a table word -/

theorem test_withFetchWord_transaction :
    seen (fun s => (s.run, s.agenda)) (step (State.reset.withFetchWord 64 0x0000000180000008)) = some (true, []) := by decide
theorem test_withFetchWord_mode :
    seen (fun s => (s.pairs.head?.map (fun pr => pr.left.mode), s.count)) (step (small.withFetchWord 2 3)) =
      some (some 3, 1) := by decide
theorem test_refused_by_name :
    stop (bus [0x80000008] small) = some (.inr (.badTransaction .noData)) ∧
      stop (bus [0, 0] small) = some (.inr (.trailingWords 1)) := by decide
theorem test_fault_by_name : stop (exec (.envIdle 2) small) = some (.inl (.absentChannel 2)) := by decide

/-! ### Witnesses: states and operands that meet the hypotheses of the statements, at the ends of their ranges -/

/-- A core in the middle of a callback. -/
def stalled : State := { small with run := true, started := true, seqPending := true, midStep := true }

/-- A core about to take a tick that requests the callback. -/
def due : State := { small with run := true, started := true, tickSpeed := 1 }

theorem witness_DecodeOfEncodeIsTheTransaction :
    56 ≤ 56 ∧ ([.writeReg (.chan 111 .vibPhase) 5, .writePair 55 .vibPhase 5, .writeIgnored 0xFFFC 5, .void 2 1 0 (some 5),
      .void 3 0 0 none, .nop 0, .read 0xFFFC, .writeCtrl 1] : List Instr).all (fun i => i.isTransaction && i.wf 56) = true := by
  decide
theorem witness_EncodeOfDecodeIsTheWords :
    decode 56 [0x80007F84, 5, 6] = .ok (.writeReg (.chan 111 .vibPhase) 5, [6]) ∧ decode 1 [0xC0000003] = .ok (.void 3 0 3 none, []) := by
  decide
theorem witness_ResetLeavesTheResetValues : 0 < 2 * small.numPairs ∧ 1 < 2 * small.numPairs := by decide
theorem witness_StepRunsTheDecodedTransaction :
    ({ small with agenda := [.txn [0x80001104, 3], .coreTurn] } : State).agenda = .txn [0x80001104, 3] :: [.coreTurn] ∧
      decode small.numPairs [0x80001104, 3] = .ok (.writeReg (.chan 1 .mode) 3, []) ∧
      Instr.wf small.numPairs (.writeReg (.chan 1 .mode) 3) = true ∧
      ({ stalled with agenda := [.resetLine] } : State).agenda = .resetLine :: [] := by decide
theorem witness_CoreTurn_starts : due.agenda = [] ∧ due.seqPending = false ∧ due.run = true ∧ due.midStep = false := by decide
theorem witness_CoreTurn_completes :
    let s := { stalled with seqPending := false, agenda := [.coreTurn] }
    s.agenda = [.coreTurn] ∧ s.midStep = true ∧ s.seqPending = false := by decide
theorem witness_CoreTurn_stalled : stalled.agenda = [] ∧ stalled.seqPending = true ∧ stalled.midStep = true := by decide
theorem witness_CoreTurn_stopped : small.agenda = [] ∧ small.run = false ∧ small.midStep = false ∧ small.seqPending = false := by
  decide
theorem witness_AbsentOperandsStop :
    2 * small.numPairs ≤ 2 ∧ small.numPairs ≤ 1 ∧ ([] : List (Sample × Sample)).length ≠ small.numPairs := by decide
theorem witness_ResetIsSafe :
    Config.numPairsOk 1 = true ∧ Config.numPairsOk 56 = true ∧ Config.histLog2Ok 2 = true ∧ Config.histLog2Ok 24 = true := by
  decide
theorem witness_EveryStepKeepsSafe : due.safe = true ∧ stalled.safe = true ∧ ∃ t, step due = .next t :=
  ⟨by decide, by decide, _, rfl⟩
theorem witness_EveryStepKeepsTheTickSchedule :
    due.onSchedule = true ∧ (due.count.toNat : Int) + due.tickInterval < 18446744073709551616 ∧ ∃ t, step due = .next t :=
  ⟨by decide, by decide, _, rfl⟩
theorem witness_NoStepChangesTheParameters : ∃ t, step { small with agenda := [.resetLine] } = .next t := ⟨_, rfl⟩
theorem witness_StartedLocksTheSampleRate :
    let s := { due with agenda := [.txn [0x80000014, 1]] }
    s.started = true ∧ (∀ rest, s.agenda ≠ .resetLine :: rest) ∧ ∃ t, step s = .next t :=
  ⟨rfl, (by intro rest h; cases h), _, rfl⟩
theorem witness_UnacknowledgedCallbackHoldsTheCore : stalled.seqPending = true ∧ stalled.agenda = [] := by decide
theorem witness_NopVoidAndIgnoredChangeNothing : (3 : BitVec 2) ≠ 1 ∧ (2 : BitVec 2) ≠ 1 := by decide
theorem witness_ReadOfEachGlobalRegister :
    let s := State.resetWith 56 24
    s.numPairs ≤ 56 ∧ s.histLog2 ≤ 24 := by decide
theorem witness_ReadOfEachChannelRegister :
    small.numPairs ≤ 56 ∧ small.chan? 0 = some ch0 ∧ small.chan? 1 = some ch0 ∧ (0x88, ch0.vibLevel) ∈ readTable ch0 := by
  decide
theorem witness_ReservedReads :
    let a : List Addr := [0x0040, 0x0FFC, 0x1200, 0x7FFC, 0x108C, 0x11FC, 0x8000, 0xFFFC]
    a.all (fun b => decide ((0x0040 ≤ b.toNat ∧ b.toNat < 0x1000) ∨
      (0x1000 + 0x200 * small.numPairs ≤ b.toNat ∧ b.toNat < 0x8000) ∨
      (0x1000 ≤ b.toNat ∧ b.toNat < 0x8000 ∧ 0x8C ≤ b.toNat % 0x100) ∨ 0x8000 ≤ b.toNat)) = true := by decide
theorem witness_ReadOnlyDiscardsWrites :
    let a : List Addr := [0x0000, 0x003C, 0x0040, 0x0FFC, 0x1200, 0x7FFC, 0x8100, 0xFFFC, 0x108C, 0x80FC, 0x1020, 0x8088]
    a.all (fun b => decide (b.toNat % 4 = 0 ∧ (b.toNat ∈ [0x00, 0x04, 0x0C, 0x24, 0x28, 0x2C, 0x30, 0x34, 0x38, 0x3C] ∨
      (0x0040 ≤ b.toNat ∧ b.toNat < 0x1000) ∨ (0x1000 + 0x200 * small.numPairs ≤ b.toNat ∧ b.toNat < 0x8000) ∨
      0x8000 + 0x100 * small.numPairs ≤ b.toNat ∨ (0x1000 ≤ b.toNat ∧ 0x8C ≤ b.toNat % 0x100) ∨
      (0x1000 ≤ b.toNat ∧ b.toNat % 0x100 ∈ [0x20, 0x24, 0x2C, 0x34, 0x38, 0x74, 0x88])))) = true := by decide
theorem witness_WriteRegStoresTheRegister :
    small.numPairs ≤ 56 ∧ small.chan? 0 = some ch0 ∧ (ChReg.mode, { ch0 with mode := 3 }) ∈ storeTable ch0 0xFFFFFFFF := by decide
theorem witness_WritePairStoresBothChannels :
    small.numPairs ≤ 56 ∧ small.pairs[0]? = some ⟨ch0, ch0⟩ ∧
      ((ChReg.slide, { ch0 with slide := 1 }), (ChReg.slide, { ch0 with slide := 1 })) ∈
        (storeTable ch0 1).zip (storeTable ch0 1) := by decide
theorem witness_ReadAfterWriteReturnsTheStoredBits :
    small.numPairs ≤ 56 ∧ 1 < 2 * small.numPairs ∧ ChReg.vibPhase.writable = true ∧ ChReg.waveSel.writable = true := by decide
theorem witness_SeqAckEndsTheStall : stalled.seqPending = true ∧ small.seqPending = false := by decide
theorem witness_WriteSampleRateBeforeStartOnly : small.started = false ∧ due.started = true := by decide
theorem witness_HostWritesReachNoSampleRateField :
    (Instr.writePair 0 .note 1).isTransaction = true ∧ (∃ t, exec (.writePair 0 .note 1) small = .next t) ∧
      small.chan? 1 = some ch0 := ⟨rfl, ⟨_, rfl⟩, by decide⟩
theorem witness_ChannelUpdateTouchesOneChannel : 1 < 2 * small.numPairs ∧ 0 ≠ 1 := by decide
theorem witness_SlideAddsToTheNote : small.chan? 1 = some ch0 := by decide
theorem witness_FadeKeepsPostVolAboveZero : small.chan? 1 = some ch0 := by decide
theorem witness_IdleAndSustainChangeNothing : 1 < 2 * small.numPairs := by decide
theorem witness_ReleaseLowersPreVolToZero :
    let ch := { ch0 with release := 1 }
    (with0 ch).chan? 0 = some ch ∧ 1 ≤ ch.release.toInt := by decide
theorem witness_AttackRaisesPreVolToFullScale :
    let ch := { ch0 with attack := 0x7FFFFFFF }
    (with0 ch).chan? 0 = some ch ∧ 1 ≤ ch.attack.toInt := by decide
theorem witness_DecayLowersPreVolToZero : small.chan? 0 = some ch0 := by decide
theorem witness_LfosAdvanceAndSample : small.chan? 1 = some ch0 := by decide
theorem witness_NoneAndReservedRequestsAreDiscarded :
    let ch := { ch0 with delayReq := 0xC0000005 }
    (with0 ch).chan? 0 = some ch := by decide
theorem witness_DelayRequestsResolveToSamples :
    let s := State.resetWith 1 24
    s.histLog2 ≤ 24 ∧ s.chan? 1 = some ch0 := by decide
theorem witness_WidthIsClamped :
    let s := State.resetWith 1 2
    s.chan? 0 = some ch0 ∧ 2 ≤ s.histLog2 ∧ s.histLog2 ≤ 24 := by decide
theorem witness_PeriodIsRecomputed : small.chan? 0 = some ch0 := by decide
theorem witness_TickResultsInEachChannel : 2 ≤ small.histLog2 ∧ small.histLog2 ≤ 24 ∧ small.chan? 1 = some ch0 := by decide
theorem witness_EnvelopeStaysInFullScale :
    let ch := { ch0 with preVol := 0x10000, attack := 0x7FFFFFFF, decay := 0x7FFFFFFF, release := 1 }
    (with0 ch).chan? 0 = some ch ∧ 0 ≤ ch.preVol.toInt ∧ ch.preVol.toInt ≤ 0x10000 ∧ 0 ≤ ch.attack.toInt ∧
      0 ≤ ch.decay.toInt ∧ 0 ≤ ch.release.toInt := by decide
theorem witness_PhaseAdvancesModuloLength :
    let ch := { ch0 with length := 0 }
    (with0 ch).chan? 0 = some ch ∧ ch.length = 0 ∧ small.chan? 0 = some ch0 ∧ ch0.length ≠ 0 := by decide
theorem witness_VoiceIsScaledAndSaturated : small.chan? 0 = some ch0 := by decide
theorem witness_DelayFilterStep : small.chan? 1 = some ch0 := by decide
theorem witness_DelayFilterStoresOneEntry :
    let ch := { ch0 with hist := [(0, 1), (15, 2)], cursor := 15 }
    (with0 ch).chan? 0 = some ch ∧ ch.hist.wf = true ∧ 0 ≠ ch.cursor.toNat % 2 ^ small.histLog2 := by decide
theorem witness_DegenerateWindowFollowsTheSample :
    let ch := { ch0 with hist := [(15, 2)], avg := 2 }
    2 ≤ small.histLog2 ∧ (with0 ch).chan? 0 = some ch ∧ ch.hist.wf = true ∧ ch.cursor.toNat < 2 ^ small.histLog2 ∧
      ch.filterW = 1 ∧ ch.delay = 0 ∧ ch.feedback = 0 ∧
      ch.avg = ch.hist.read (((ch.cursor.toNat : Int) - 1) % 2 ^ small.histLog2).toNat := by decide
theorem witness_StereoPairStep : small.pairs[0]? = some ⟨ch0, ch0⟩ := by decide
theorem witness_PhaseModulationPairStep : small.pairs[0]? = some ⟨ch0, ch0⟩ := by decide
theorem witness_AmplitudeModulationPairStep : small.pairs[0]? = some ⟨ch0, ch0⟩ := by decide
theorem witness_SyncPairStep :
    let ch := { ch0 with phase := 0xFF00, period := 0x100 }
    (with0 ch).pairs[0]? = some ⟨ch, ch0⟩ ∧ ch.length.toNat ≤ ch.phase.toNat + ch.period.toNat := by decide
theorem witness_LeftModeSelectsTheVariant : small.pairs[0]? = some ⟨ch0, ch0⟩ := by decide
theorem witness_PairsAreIndependent :
    let s := State.resetWith 2 4
    let u := s.setChan 2 { ch0 with mode := 3 }
    s.histLog2 = u.histLog2 ∧ s.pairs[0]? = u.pairs[0]? ∧ s.pairs[1]? ≠ u.pairs[1]? := by decide
theorem witness_PhaseBProducesOneSample : small.chan? 1 = some ch0 := by decide
theorem witness_MixSumsAndSaturates : ([(32767, 0x8000)] : List (Sample × Sample)).length = small.numPairs := by decide
theorem witness_PhaseATicksThenCallsBack : due.count = due.nextTick ∧ small.tickCounter.toNat < small.tickSpeed.toNat := by decide
theorem witness_CallbackEntryIsPrecise :
    due.seqPending = false ∧ (∃ t, exec .outputStepA due = .next t ∧ t.seqPending = true) ∧ due.count = due.nextTick ∧
      due.chan? 1 = some ch0 := ⟨by decide, ⟨_, rfl, by decide⟩, by decide, by decide⟩

end Sys2Proof.Tests
end

section
namespace Sys2Proof
open Machine

/-- Settles O26: the parts are the channel laws of `setChan`; the fields other than `pairs` agree because `setChan` is an update of
`pairs` alone. -/
theorem channelUpdateTouchesOneChannel : Obligations.ChannelUpdateTouchesOneChannel := by
  unfold Obligations.ChannelUpdateTouchesOneChannel
  intro s c ch hc
  have frame : s.setChan c ch = { s with pairs := (s.setChan c ch).pairs } := rfl
  exact ⟨State.chan?_setChan_same hc, fun _ hne => State.chan?_setChan_other hne, frame, State.setChan_numPairs s c ch⟩

end Sys2Proof
end

section
namespace Sys2Proof.Machine
open Sys2Proof.Statements

/-! ### Conversions and bounds -/

/-- The 64-bit counter after one sample is one up (10_state.md R29). -/
theorem toCount_toNat_add_one (c : Count) : toCount (c.toNat + 1) = c + 1 := by
  rw [toCount, BitVec.ofInt_add, BitVec.ofInt_natCast, BitVec.ofNat_toNat, BitVec.setWidth_eq]
  rfl

/-- A value below 2^64 survives the conversion. -/
theorem toNat_toCount {v : Int} (h : 0 ≤ v) (h' : v < 18446744073709551616) : (toCount v).toNat = v.toNat := by
  rw [toCount, BitVec.toNat_ofInt, Int.emod_eq_of_lt h (by simpa using h')]

theorem State.histLen_pos (s : State) : 0 < s.histLen := Nat.two_pow_pos _

/-- HIST_LEN is at most 2^24 (00_scope.md R7). -/
theorem State.histLen_le {s : State} (h : s.histLog2 ≤ 24) : s.histLen ≤ 16777216 :=
  Nat.pow_le_pow_right (n := 2) (by decide) h

theorem State.statusOk_iff (s : State) :
    s.statusOk = true ↔
      (s.seqPending = true → s.midStep = true) ∧ (s.midStep = true → s.started = true) ∧
        (s.run = true → s.started = true) := by
  unfold State.statusOk
  cases s.seqPending <;> cases s.midStep <;> cases s.started <;> cases s.run <;> decide

/-! ### Host transactions (46_host_interface.md R160 to R167) -/

/-- The registers that the core alone writes (10_state.md R28, R29), and the parameter HIST_LOG2, agree in two states. -/
structure State.SameCoreRegs (s t : State) : Prop where
  histLog2 : t.histLog2 = s.histLog2
  out : t.out = s.out
  outL : t.outL = s.outL
  outR : t.outR = s.outR
  count : t.count = s.count
  nextTick : t.nextTick = s.nextTick
  tickCounter : t.tickCounter = s.tickCounter
  midStep : t.midStep = s.midStep

theorem transaction_sameCoreRegs {i : Instr} {s t : State} (hi : i.isTransaction = true) (h : exec i s = .next t) :
    s.SameCoreRegs t := by
  rcases transaction_cases hi h with rfl | ⟨v, rfl⟩ | ⟨b, rfl⟩ | rfl | ⟨d, -, rfl⟩ | ⟨d, rfl⟩ | ⟨d, rfl⟩ | ⟨d, rfl⟩ |
    ⟨c, r, d, rfl⟩ | ⟨c, c', r, d, rfl⟩ <;> constructor <;> simp

/-- What depends on the pairs alone, and is kept by a host write to one channel register, every transaction keeps. -/
theorem transaction_keeps {P : State → Prop} (same : ∀ {u v : State}, v.pairs = u.pairs → P u → P v)
    (write : ∀ {u : State} (c : Nat) (r : ChReg) (d : Word), P u → P (u.writeChanReg c r d)) {i : Instr} {s t : State}
    (hi : i.isTransaction = true) (h : exec i s = .next t) (hs : P s) : P t := by
  rcases transaction_cases hi h with rfl | ⟨v, rfl⟩ | ⟨b, rfl⟩ | rfl | ⟨d, -, rfl⟩ | ⟨d, rfl⟩ | ⟨d, rfl⟩ | ⟨d, rfl⟩ |
    ⟨c, r, d, rfl⟩ | ⟨c, c', r, d, rfl⟩
  -- WRITE.PAIR, then WRITE.REG on a channel: the only transactions that touch the pairs.
  on_goal 10 => exact write c' r d (write c r d hs)
  on_goal 9 => exact write c r d hs
  all_goals exact same (by simp) hs

theorem transaction_numPairs {i : Instr} {s t : State} (hi : i.isTransaction = true) (h : exec i s = .next t) :
    t.numPairs = s.numPairs :=
  transaction_keeps (P := fun u => u.numPairs = s.numPairs) (fun e hu => (congrArg List.length e).trans hu)
    (fun c r d hu => (State.writeChanReg_numPairs _ c r d).trans hu) hi h rfl

/-- No transaction clears STARTED, and none changes SAMPLE_RATE while it is set (10_state.md R24, R26). -/
theorem transaction_started {i : Instr} {s t : State} (hi : i.isTransaction = true) (h : exec i s = .next t)
    (hs : s.started = true) : t.started = true ∧ t.sampleRate = s.sampleRate := by
  rcases transaction_cases hi h with rfl | ⟨v, rfl⟩ | ⟨b, rfl⟩ | rfl | ⟨d, hd, rfl⟩ | ⟨d, rfl⟩ | ⟨d, rfl⟩ | ⟨d, rfl⟩ |
    ⟨c, r, d, rfl⟩ | ⟨c, c', r, d, rfl⟩
  -- WRITE.SAMPLE_RATE stores only while STARTED is 0.
  on_goal 5 => exact absurd hs (by simp [hd])
  all_goals simp [hs]

/-- A transaction keeps the order of the status bits: writing RUN sets STARTED with it, and SEQ_PENDING is only ever cleared. -/
theorem transaction_statusOk {i : Instr} {s t : State} (hi : i.isTransaction = true) (h : exec i s = .next t)
    (hs : s.statusOk = true) : t.statusOk = true := by
  rw [State.statusOk_iff] at hs ⊢
  obtain ⟨hseq, hmid, hrun⟩ := hs
  rcases transaction_cases hi h with rfl | ⟨v, rfl⟩ | ⟨b, rfl⟩ | rfl | ⟨d, -, rfl⟩ | ⟨d, rfl⟩ | ⟨d, rfl⟩ | ⟨d, rfl⟩ |
    ⟨c, r, d, rfl⟩ | ⟨c, c', r, d, rfl⟩
  -- WRITE.SEQ_ACK clears SEQ_PENDING, and WRITE.CTRL sets STARTED with RUN.
  on_goal 4 => exact ⟨by simp, by simpa using hmid, by simpa using hrun⟩
  on_goal 3 => exact ⟨hseq, fun hm => by simp [hmid hm], fun hb => by simp [show b = true from hb]⟩
  all_goals simpa using And.intro hseq ⟨hmid, hrun⟩

/-- Every channel of `s` is one of `t`, with the sample-rate and the derived fields that it had (10_state.md R51). -/
def State.KeepsCoreFields (s t : State) : Prop :=
  ∀ c ch, s.chan? c = some ch → ∃ ch', t.chan? c = some ch' ∧ sameSampleRate ch' ch ∧ sameDerived ch' ch

theorem State.KeepsCoreFields.refl (s : State) : s.KeepsCoreFields s :=
  fun _ ch hc => ⟨ch, hc, ⟨rfl, rfl, rfl, rfl⟩, rfl, rfl, rfl, rfl⟩

theorem sameFields_writeReg (ch : Channel) (d : Word) (r : ChReg) :
    sameSampleRate (ch.writeReg d r) ch ∧ sameDerived (ch.writeReg d r) ch := by
  simp [sameSampleRate, sameDerived]

theorem sameFields_trans {a b c : Channel} (h : sameSampleRate a b ∧ sameDerived a b)
    (h' : sameSampleRate b c ∧ sameDerived b c) : sameSampleRate a c ∧ sameDerived a c := by
  simp_all [sameSampleRate, sameDerived]

theorem State.KeepsCoreFields.writeChanReg {s u : State} (h : s.KeepsCoreFields u) (c : Nat) (r : ChReg) (d : Word) :
    s.KeepsCoreFields (u.writeChanReg c r d) := by
  intro c' ch hc
  obtain ⟨ch', hc', hf⟩ := h c' ch hc
  rw [State.chan?_writeChanReg, hc']
  by_cases e : c' = c
  · exact ⟨ch'.writeReg d r, by simp [e], sameFields_trans (sameFields_writeReg ch' d r) hf⟩
  · exact ⟨ch', by simp [e], hf⟩

theorem transaction_keepsCoreFields {i : Instr} {s t : State} (hi : i.isTransaction = true) (h : exec i s = .next t) :
    s.KeepsCoreFields t :=
  transaction_keeps (P := s.KeepsCoreFields)
    (fun {u v} e hu c => by simpa only [State.chan?, e] using hu c)
    (fun c r d hu => hu.writeChanReg c r d) hi h (.refl s)

/-! ### Phase A and phase B (45_mixer_control.md R151, R153) -/

@[simp] theorem State.phaseA_started (wave : WaveFn) (s : State) : (s.phaseA wave).started = s.started := by
  unfold State.phaseA
  split <;> simp

@[simp] theorem State.phaseA_sampleRate (wave : WaveFn) (s : State) : (s.phaseA wave).sampleRate = s.sampleRate := by
  unfold State.phaseA
  split <;> simp

/-- What holds after the tick, and is kept by the callback's entry and by phase B, holds after phase A. -/
theorem State.phaseA_of_parts {P : State → Prop} (wave : WaveFn) {s : State}
    (callback : P (s.tickIfDue wave).takeCallback) (through : P ((s.tickIfDue wave).phaseB wave)) :
    P (s.phaseA wave) := by
  unfold State.phaseA
  split
  · exact callback
  · exact through

/-- Every channel after phase B: the one on its side of the stepped pair. -/
theorem State.chan?_phaseB (wave : WaveFn) (s : State) (c : Nat) :
    (s.phaseB wave).chan? c = (s.pairs[pairOf c]?).map (fun pr => (pr.step wave s.histLen).1.get (isLeft c)) := by
  simp only [State.chan?, State.phaseB_pairs, List.getElem?_map, Option.map_map]
  rfl

/-- A pair step writes no tick-rate and no derived field (10_state.md R51). -/
theorem sameFields_step (wave : WaveFn) (n : Nat) (pr : Pair) (b : Bool) :
    sameTickRate ((pr.step wave n).1.get b) (pr.get b) ∧ sameDerived ((pr.step wave n).1.get b) (pr.get b) := by
  cases b <;> simp [sameTickRate, sameDerived, Pair.step, Pair.get]

theorem State.phaseB_sameFields (wave : WaveFn) {s : State} {c : Nat} {ch : Channel} (hc : s.chan? c = some ch) :
    ∃ ch', (s.phaseB wave).chan? c = some ch' ∧ sameTickRate ch' ch ∧ sameDerived ch' ch := by
  obtain ⟨pr, hp, rfl⟩ := Option.map_eq_some_iff.mp hc
  exact ⟨_, by rw [State.chan?_phaseB, hp]; rfl, sameFields_step wave s.histLen pr (isLeft c)⟩

theorem State.phaseB_outBytes (wave : WaveFn) (s : State) :
    (s.phaseB wave).outBytes =
      s.outBytes ++ (bytesOfSample (s.phaseB wave).outL ++ bytesOfSample (s.phaseB wave).outR) := by
  simp only [State.outBytes, State.phaseB_out, List.flatMap_append, List.flatMap_singleton]

/-! ### Safe states -/

theorem all_safe_map {n : Nat} {f : Pair → Pair} (hf : ∀ pr : Pair, pr.safe n = true → (f pr).safe n = true)
    {ps : List Pair} (h : ps.all (Pair.safe n) = true) : (ps.map f).all (Pair.safe n) = true := by
  rw [List.all_eq_true] at h ⊢
  intro pr hpr
  obtain ⟨q, hq, rfl⟩ := List.mem_map.mp hpr
  exact hf q (h q hq)

theorem Channel.safe_reset {n : Nat} (hn : 0 < n) : Channel.reset.safe n = true := by
  simp [Channel.safe, Channel.reset, Memory.wf, Memory.wfFrom, Memory.within, hn]

theorem State.safe_resetWith {n h : Nat} (hn : Config.numPairsOk n = true) (hh : Config.histLog2Ok h = true) :
    (State.resetWith n h).safe = true := by
  have hch : Channel.reset.safe (State.resetWith n h).histLen = true := Channel.safe_reset (State.histLen_pos _)
  simp only [Config.numPairsOk, Config.histLog2Ok, Bool.and_eq_true, decide_eq_true_eq] at hn hh
  refine (State.safe_iff _).mpr ⟨⟨?_, hh⟩, ?_, rfl, rfl, rfl⟩
  · simpa [State.numPairs, State.resetWith] using hn
  · rw [List.all_eq_true]
    intro pr hpr
    rw [List.eq_of_mem_replicate hpr]
    simp only [Pair.safe, hch, Bool.and_self]

theorem State.safe_resetCore {s : State} (h : s.safe = true) : s.resetCore.safe = true := by
  have hp : s.paramsOk = true := by
    simp only [State.safe, Bool.and_eq_true] at h
    exact h.1.1.1.1
  simp only [State.paramsOk, Bool.and_eq_true] at hp
  exact State.safe_resetWith hp.1 hp.2

/-- A tick keeps a pair safe. -/
theorem Pair.safe_tick (wave : WaveFn) (g : State) (hg : g.maxDelay < 4294967296) {pr : Pair}
    (h : pr.safe g.histLen = true) : (pr.map (Channel.tick wave g)).safe g.histLen = true := by
  simp only [Pair.safe, Bool.and_eq_true] at h ⊢
  exact ⟨Channel.safe_tick wave g hg h.1, Channel.safe_tick wave g hg h.2⟩

theorem State.safe_tickIfDue (wave : WaveFn) {s : State} (h : s.safe = true) : (s.tickIfDue wave).safe = true := by
  unfold State.tickIfDue
  split
  case isFalse => exact h
  case isTrue =>
    obtain ⟨⟨hn, hh⟩, hpairs, hrest⟩ := (State.safe_iff s).mp h
    have hd : s.maxDelay < 4294967296 :=
      lt_of_le_of_lt (Nat.div_le_self _ _) (lt_of_le_of_lt (State.histLen_le hh.2) (by decide))
    exact (State.safe_iff _).mpr ⟨⟨by simpa using hn, hh⟩, all_safe_map (fun _ => Pair.safe_tick wave s hd) hpairs, hrest⟩

theorem State.safe_takeCallback {s : State} (h : s.safe = true) (hs : s.started = true) :
    s.takeCallback.safe = true := by
  obtain ⟨hparams, hpairs, -, hout⟩ := (State.safe_iff s).mp h
  exact (State.safe_iff _).mpr ⟨hparams, hpairs, (State.statusOk_iff _).mpr (by simp [hs]), hout⟩

theorem State.safe_phaseB (wave : WaveFn) {s : State} (h : s.safe = true) (hs : s.seqPending = false) :
    (s.phaseB wave).safe = true := by
  obtain ⟨⟨hn, hh⟩, hpairs, hstatus, hcount, -⟩ := (State.safe_iff s).mp h
  obtain ⟨-, -, hrun⟩ := (State.statusOk_iff s).mp hstatus
  have hlen : s.histLen ≤ 4294967296 := le_trans (State.histLen_le hh.2) (by decide)
  refine (State.safe_iff _).mpr ⟨⟨by simpa using hn, hh⟩, ?_, ?_, ?_, ?_⟩
  · rw [State.phaseB_pairs]
    exact all_safe_map (fun _ => Pair.safe_stepAs s.histLen_pos hlen wave _) hpairs
  · exact (State.statusOk_iff _).mpr (by simpa [hs] using hrun)
  · rw [State.phaseB_count, toCount_toNat_add_one, hcount, State.phaseB_out, List.length_append, BitVec.ofNat_add]
    rfl
  · rw [State.phaseB_out, List.getLast?_concat]
    rfl

theorem State.safe_phaseA (wave : WaveFn) {s : State} (h : s.safe = true) (hr : s.run = true)
    (hs : s.seqPending = false) : (s.phaseA wave).safe = true := by
  obtain ⟨-, -, hstatus, -⟩ := (State.safe_iff s).mp h
  obtain ⟨-, -, hrun⟩ := (State.statusOk_iff s).mp hstatus
  have ht := State.safe_tickIfDue wave h
  exact State.phaseA_of_parts (P := fun u => u.safe = true) wave
    (State.safe_takeCallback ht (by simpa using hrun hr)) (State.safe_phaseB wave ht (by simpa using hs))

theorem transaction_safe {i : Instr} {s t : State} (hi : i.isTransaction = true) (h : exec i s = .next t)
    (hs : s.safe = true) : t.safe = true := by
  obtain ⟨⟨hn, hh⟩, hpairs, hstatus, hcount, hout⟩ := (State.safe_iff s).mp hs
  have hsame := transaction_sameCoreRegs hi h
  have hlen : t.histLen = s.histLen := by simp only [State.histLen, hsame.histLog2]
  refine (State.safe_iff t).mpr ⟨⟨?_, ?_⟩, ?_, transaction_statusOk hi h hstatus, ?_, ?_⟩
  · rwa [transaction_numPairs hi h]
  · rwa [hsame.histLog2]
  · rw [hlen]
    exact transaction_keeps (P := fun u => u.pairs.all (Pair.safe s.histLen) = true) (fun e hu => by rwa [e])
      (fun c r d hu => safe_writeChanReg hu c r d) hi h hpairs
  · rwa [hsame.count, hsame.out]
  · rwa [hsame.out, hsame.outL, hsame.outR]

/-! ### The tick schedule (10_state.md R54(1)) -/

/-- After the tick, if one was due, COUNT is strictly before NEXT_TICK: the interval is at least 1 (41_tick_scheduler.md R111). -/
theorem State.tickIfDue_count_lt (wave : WaveFn) {s : State} (h : s.count.toNat ≤ s.nextTick.toNat)
    (hw : (s.count.toNat : Int) + s.tickInterval < 18446744073709551616) :
    s.count.toNat < (s.tickIfDue wave).nextTick.toNat := by
  unfold State.tickIfDue
  split
  case isTrue =>
    have hpos : 1 ≤ s.tickInterval := tickInterval_pos _ _ _
    rw [State.tick_nextTick, toNat_toCount (by omega) hw]
    omega
  case isFalse hne => exact lt_of_le_of_ne h (fun e => hne (BitVec.eq_of_toNat_eq e))

/-- Phase B from strictly before NEXT_TICK ends on schedule. -/
theorem State.onSchedule_phaseB (wave : WaveFn) {s : State} (h : s.count.toNat < s.nextTick.toNat) :
    (s.phaseB wave).onSchedule = true := by
  have hlt := s.nextTick.isLt
  rw [State.onSchedule_iff, State.phaseB_count, State.phaseB_nextTick, toNat_toCount (by omega) (by omega)]
  exact ⟨by omega, by simp⟩

theorem State.onSchedule_phaseA (wave : WaveFn) {s : State} (h : s.count.toNat ≤ s.nextTick.toNat)
    (hw : (s.count.toNat : Int) + s.tickInterval < 18446744073709551616) : (s.phaseA wave).onSchedule = true := by
  have hlt : (s.tickIfDue wave).count.toNat < (s.tickIfDue wave).nextTick.toNat := by
    rw [State.tickIfDue_count]
    exact State.tickIfDue_count_lt wave h hw
  exact State.phaseA_of_parts (P := fun u => u.onSchedule = true) wave
    ((State.onSchedule_iff _).mpr ⟨hlt.le, fun _ => hlt⟩) (State.onSchedule_phaseB wave hlt)

theorem transaction_onSchedule {i : Instr} {s t : State} (hi : i.isTransaction = true) (h : exec i s = .next t)
    (hs : s.onSchedule = true) : t.onSchedule = true := by
  have hsame := transaction_sameCoreRegs hi h
  rwa [State.onSchedule_iff, hsame.count, hsame.nextTick, hsame.midStep, ← State.onSchedule_iff]

/-! ### Absent operands -/

theorem State.chan?_absent {s : State} {c : Nat} (h : 2 * s.numPairs ≤ c) : s.chan? c = none := by
  rw [← Option.not_isSome_iff_eq_none, State.chan?_isSome]
  omega

theorem onPair_absent {p : Nat} (f : Pair → Pair × (Sample × Sample)) {s : State} (h : s.numPairs ≤ p) :
    onPair p f s = .fault (.absentPair p) := by
  unfold onPair
  rw [List.getElem?_eq_none h]

end Sys2Proof.Machine

namespace Sys2Proof
open Machine

/-- Settles O10: each kind of event of `step_cases` keeps the safe states; the order of the status bits gives each phase what it
needs, STARTED for the callback's entry. -/
theorem everyStepKeepsSafe : Obligations.EveryStepKeepsSafe := by
  unfold Obligations.EveryStepKeepsSafe
  intro s t hs hstep
  obtain ⟨a, hcases⟩ := step_cases hstep
  have hs' : State.safe { s with agenda := a } = true := hs
  rcases hcases with rfl | ⟨-, rfl⟩ | ⟨hrun, -, hseq, rfl⟩ | ⟨-, hseq, rfl⟩ | ⟨i, ws, -, hdec, hexec⟩
  · exact hs'
  · exact State.safe_resetCore hs'
  · exact State.safe_phaseA _ hs' hrun hseq
  · exact State.safe_phaseB _ hs' hseq
  · exact transaction_safe (decode_isTransaction hdec) hexec hs'

/-- Settles O11: a tick moves NEXT_TICK past COUNT before phase B advances COUNT, and no transaction touches either. -/
theorem everyStepKeepsTheTickSchedule : Obligations.EveryStepKeepsTheTickSchedule := by
  unfold Obligations.EveryStepKeepsTheTickSchedule
  intro s t hs hw hstep
  obtain ⟨hle, hlt⟩ := (State.onSchedule_iff s).mp hs
  obtain ⟨a, rfl | ⟨-, rfl⟩ | ⟨-, -, -, rfl⟩ | ⟨hmid, -, rfl⟩ | ⟨i, ws, -, hdec, hexec⟩⟩ := step_cases hstep
  · exact hs
  · rfl
  · exact State.onSchedule_phaseA _ hle hw
  · exact State.onSchedule_phaseB _ (hlt hmid)
  · exact transaction_onSchedule (decode_isTransaction hdec) hexec hs

/-- Settles O13: the core's turns write neither field, and among the transactions only WRITE.SAMPLE_RATE writes SAMPLE_RATE, which
STARTED locks. -/
theorem startedLocksTheSampleRate : Obligations.StartedLocksTheSampleRate := by
  unfold Obligations.StartedLocksTheSampleRate
  intro s t hs hreset hstep
  obtain ⟨a, rfl | ⟨ha, -⟩ | ⟨-, -, -, rfl⟩ | ⟨-, -, rfl⟩ | ⟨i, ws, -, hdec, hexec⟩⟩ := step_cases hstep
  · exact ⟨hs, rfl⟩
  · exact absurd ha (hreset a)
  · exact ⟨by simpa using hs, by simp⟩
  · exact ⟨by simpa using hs, by simp⟩
  · exact transaction_started (s := { s with agenda := a }) (decode_isTransaction hdec) hexec hs

/-- Settles O25: no transaction writes a register of the core's own, and a host register write reaches no sample-rate or derived
field of a channel. -/
theorem hostWritesReachNoSampleRateField : Obligations.HostWritesReachNoSampleRateField := by
  unfold Obligations.HostWritesReachNoSampleRateField
  intro s t i hi h
  obtain ⟨-, hout, houtL, houtR, hcount, hnext, hticks, hmid⟩ := transaction_sameCoreRegs hi h
  exact ⟨hout, houtL, houtR, hcount, hnext, hticks, hmid, transaction_keepsCoreFields hi h⟩

/-- Settles O58: the sample is the pair MIX emits, and the pair steps write no tick-rate and no derived field. -/
theorem phaseBProducesOneSample : Obligations.PhaseBProducesOneSample := by
  unfold Obligations.PhaseBProducesOneSample
  intro s
  exact ⟨s.phaseB Config.waveFn, rfl, toCount_toNat_add_one s.count, State.phaseB_out _ s, State.phaseB_outBytes _ s, rfl,
    fun _ _ hc => State.phaseB_sameFields _ hc⟩

/-- Settles O8: every operation on one channel or pair looks its operand up first. -/
theorem absentOperandsStop : Obligations.AbsentOperandsStop := by
  unfold Obligations.AbsentOperandsStop
  refine ⟨fun s c hc i hi => ?_, fun s c x hc => ?_, fun s p hp i hi => ?_, fun s outs hlen => if_neg hlen⟩
  · have habsent := State.chan?_absent hc
    simp only [List.mem_cons, List.not_mem_nil, or_false] at hi
    rcases hi with rfl | rfl | rfl | rfl | rfl | rfl | rfl | rfl | rfl | rfl | rfl | rfl | rfl | rfl | rfl | rfl <;>
      exact onChan_absent _ habsent
  · simp only [exec, execVoiceScale, execDfStep, State.chan?_absent hc, and_self]
  · simp only [List.mem_cons, List.not_mem_nil, or_false] at hi
    rcases hi with rfl | rfl | rfl | rfl | rfl <;> exact onPair_absent _ hp

/-- Settles O9: a reset channel is safe for a history of any length, and the counters start at 0. -/
theorem resetIsSafe : Obligations.ResetIsSafe := by
  unfold Obligations.ResetIsSafe
  exact ⟨State.safe_resetWith rfl rfl, rfl, fun _ _ hn hh => State.safe_resetWith hn hh⟩

end Sys2Proof
end

section
namespace Sys2Proof

/-! ### Addresses and the WRITE at an address (30_encoding.md R84 to R87) -/

theorem aligned_iff (b : Addr) : aligned b = true ↔ b.toNat % 4 = 0 := by
  rw [aligned, beq_iff_eq, ← BitVec.toNat_inj, BitVec.extractLsb'_toNat]
  simp

/-- No global register lies from 0x40 on. -/
theorem decodeAddr_above_globals (n : Nat) {b : Addr} (h : 0x40 ≤ b.toNat) (h' : b.toNat < 0x1000) :
    decodeAddr n b = .reserved := by
  simp only [decodeAddr, BitVec.extractLsb'_toNat, Nat.shiftRight_eq_div_pow]
  rw [if_pos (by omega), if_neg (by omega)]

/-- The channel blocks, as arithmetic on the address. -/
theorem decodeAddr_chanBlock (n : Nat) {b : Addr} (h : 0x1000 ≤ b.toNat) (h' : b.toNat < 0x8000) :
    decodeAddr n b =
      if b.toNat / 0x100 - 0x10 < 2 * n then .chan (b.toNat / 0x100 - 0x10) (b.toNat % 0x100) else .reserved := by
  have hblock : addrBlock b = b.toNat / 0x100 := by
    simp only [addrBlock, BitVec.extractLsb'_toNat, Nat.shiftRight_eq_div_pow]
    omega
  have hoff : addrOff b = b.toNat % 0x100 := by simp [addrOff]
  rw [← hblock, ← hoff]
  simp only [decodeAddr, BitVec.extractLsb'_toNat, Nat.shiftRight_eq_div_pow]
  rw [if_neg (by omega), if_pos (by omega)]

/-- The pair-broadcast blocks, as arithmetic on the address. -/
theorem decodeAddr_pairBlock (n : Nat) {b : Addr} (h : 0x8000 ≤ b.toNat) :
    decodeAddr n b =
      if b.toNat / 0x100 - 0x80 < n then .pair (b.toNat / 0x100 - 0x80) (b.toNat % 0x100) else .reserved := by
  have hlt := b.isLt
  have hblock : addrBlock b = b.toNat / 0x100 - 0x80 := by
    simp only [addrBlock, BitVec.extractLsb'_toNat, Nat.shiftRight_eq_div_pow]
    omega
  have hoff : addrOff b = b.toNat % 0x100 := by simp [addrOff]
  rw [← hblock, ← hoff]
  simp only [decodeAddr, BitVec.extractLsb'_toNat, Nat.shiftRight_eq_div_pow]
  rw [if_neg (by omega), if_neg (by omega)]

/-- R84: the block of an absent channel is reserved. -/
theorem decodeAddr_absentChan {n : Nat} {b : Addr} (h : 0x1000 + 0x200 * n ≤ b.toNat) (h' : b.toNat < 0x8000) :
    decodeAddr n b = .reserved := by
  rw [decodeAddr_chanBlock n (by omega) h', if_neg (by omega)]

/-- R84: the block of an absent pair is reserved. -/
theorem decodeAddr_absentPair {n : Nat} {b : Addr} (h : 0x8000 + 0x100 * n ≤ b.toNat) : decodeAddr n b = .reserved := by
  rw [decodeAddr_pairBlock n (by omega), if_neg (by omega)]

/-- Above the global registers an address is reserved, or its low byte is the offset in a block. -/
theorem decodeAddr_block_cases (n : Nat) {b : Addr} (h : 0x1000 ≤ b.toNat) :
    decodeAddr n b = .reserved ∨ (∃ c, decodeAddr n b = .chan c (b.toNat % 0x100)) ∨
      ∃ p, decodeAddr n b = .pair p (b.toNat % 0x100) := by
  rcases Nat.lt_or_ge b.toNat 0x8000 with hb | hb
  · have hdec := decodeAddr_chanBlock n h hb
    split at hdec
    · exact .inr (.inl ⟨_, hdec⟩)
    · exact .inl hdec
  · have hdec := decodeAddr_pairBlock n hb
    split at hdec
    · exact .inr (.inr ⟨_, hdec⟩)
    · exact .inl hdec

/-- The registers of a channel end at 0x8C. -/
theorem ChReg.ofOffset_none {off : Nat} (h : 0x8C ≤ off) : ChReg.ofOffset off = none := by
  rw [Option.eq_none_iff_forall_ne_some]
  intro r hr
  have := r.offset_lt
  rw [ChReg.offset_of_ofOffset hr] at this
  omega

/-- R87: the offsets of the read-only registers. -/
theorem ChReg.writable_false_of_offset_mem {r : ChReg} (h : r.offset ∈ [0x20, 0x24, 0x2C, 0x34, 0x38, 0x74, 0x88]) :
    r.writable = false := by
  revert h
  cases r <;> decide

/-- The host can store to no register at this offset of a channel or pair-broadcast block. -/
def NoWritableAt (off : Nat) : Prop := ∀ r, ChReg.ofOffset off = some r → r.writable = false

theorem noWritableAt_above {off : Nat} (h : 0x8C ≤ off) : NoWritableAt off := by
  intro r hr
  rw [ChReg.ofOffset_none h] at hr
  cases hr

theorem noWritableAt_readOnly {off : Nat} (h : off ∈ [0x20, 0x24, 0x2C, 0x34, 0x38, 0x74, 0x88]) : NoWritableAt off := by
  intro r hr
  rw [← ChReg.offset_of_ofOffset hr] at h
  exact ChReg.writable_false_of_offset_mem h

theorem decodeWrite_reserved {n : Nat} {b : Addr} (h : decodeAddr n b = .reserved) (d : Word) :
    decodeWrite n b d = .writeIgnored b d := by
  simp only [decodeWrite, h]

/-- A WRITE to such an offset of any block, present or absent, is ignored. -/
theorem decodeWrite_ignored_of_offset (n : Nat) {b : Addr} (h : 0x1000 ≤ b.toNat) (hoff : NoWritableAt (b.toNat % 0x100))
    (d : Word) : decodeWrite n b d = .writeIgnored b d := by
  rcases decodeAddr_block_cases n h with hdec | ⟨c, hdec⟩ | ⟨p, hdec⟩
  · exact decodeWrite_reserved hdec d
  all_goals
    simp only [decodeWrite, hdec]
    cases hr : ChReg.ofOffset (b.toNat % 0x100) with
    | none => rfl
    | some r => simp only [hoff r hr, Bool.false_eq_true, if_false]

/-- R86 row 9: the global registers that take no WRITE. -/
def GlobReg.readOnly : List GlobReg :=
  [.id, .config, .status, .tickCounter, .countLo, .countHi, .nextTickLo, .nextTickHi, .outL, .outR]

theorem decodeWrite_globAddr_readOnly (n : Nat) {r : GlobReg} (h : r ∈ GlobReg.readOnly) (d : Word) :
    decodeWrite n (globAddr r) d = .writeIgnored (globAddr r) d := by
  simp only [decodeWrite, decodeAddr_globAddr]
  fin_cases h <;> rfl

theorem eq_globAddr_of_toNat {b : Addr} {r : GlobReg} (h : r.offset = b.toNat) : b = globAddr r := by
  rw [globAddr, h, BitVec.ofNat_toNat, BitVec.setWidth_eq]

/-! ### The transaction of a WRITE (R80, R81, R86) -/

theorem mkHdr_write (b : Addr) : 0x80000000 + b.zeroExtend 32 = mkHdr 2 0 b := by
  apply BitVec.eq_of_toNat_eq
  have hlt := b.isLt
  rw [mkHdr, BitVec.toNat_append, ← Nat.shiftLeft_add_eq_or_of_lt hlt, BitVec.toNat_add, BitVec.toNat_setWidth]
  change (0x80000000 + b.toNat % 2 ^ 32) % 2 ^ 32 = 0x80000000 + b.toNat
  omega

/-- An aligned WRITE takes its data word and is not void. -/
theorem decode_write (n : Nat) {b : Addr} (h : b.toNat % 4 = 0) (d : Word) :
    decode n [0x80000000 + b.zeroExtend 32, d] = .ok (decodeWrite n b d, []) := by
  have hvoid : isVoid 2 0 b = false := by simp [isVoid, (aligned_iff b).mpr h]
  rw [mkHdr_write]
  simp only [decode, hdrOp_mkHdr, hdrRsv_mkHdr, hdrBaddr_mkHdr, if_true, hvoid, Bool.false_eq_true, if_false]

namespace Machine
open Sys2Proof.Statements

/-! ### READ (46_host_interface.md R161) -/

theorem reads_of_readAddr {s : State} {b : Addr} {v : Word} (h : s.readAddr b = v) : reads s b v := h ▸ rfl

theorem State.readAddr_reserved {s : State} {b : Addr} (h : decodeAddr s.numPairs b = .reserved) : s.readAddr b = 0 := by
  simp only [State.readAddr, h]

theorem State.readAddr_pair {s : State} {b : Addr} {p off : Nat} (h : decodeAddr s.numPairs b = .pair p off) :
    s.readAddr b = 0 := by
  simp only [State.readAddr, h]

/-- R84: above the last register of a block there is nothing to read, on a present channel or not. -/
theorem State.readAddr_above_offsets {s : State} {b : Addr} (h : 0x1000 ≤ b.toNat) (hoff : 0x8C ≤ b.toNat % 0x100) :
    s.readAddr b = 0 := by
  rcases decodeAddr_block_cases s.numPairs h with hdec | ⟨c, hdec⟩ | ⟨p, hdec⟩
  · exact State.readAddr_reserved hdec
  · simp only [State.readAddr, hdec, ChReg.ofOffset_none hoff]
    cases s.chan? c <;> rfl
  · exact State.readAddr_pair hdec

/-- The pair-broadcast blocks cannot be read. -/
theorem State.readAddr_pairBlock {s : State} {b : Addr} (h : 0x8000 ≤ b.toNat) : s.readAddr b = 0 := by
  have hdec := decodeAddr_pairBlock s.numPairs h
  split at hdec
  · exact State.readAddr_pair hdec
  · exact State.readAddr_reserved hdec

/-! ### Steps that run an instruction (20_memory.md R71) -/

theorem hostTurn_of_decode {s : State} {ws : List Word} {i : Instr} (h : decode s.numPairs ws = .ok (i, [])) :
    hostTurn ws s = .run i s := by
  simp only [hostTurn, h]

theorem step_of_fetch_run {s s' : State} {i : Instr} (h : fetch s = .run i s') : step s = exec i s' := by
  simp only [step, h]

theorem fetch_txn {s : State} {ws : List Word} {rest : List Event} (h : s.agenda = .txn ws :: rest) :
    fetch s = hostTurn ws { s with agenda := rest } := by
  simp only [fetch, h]

theorem fetch_resetLine {s : State} {rest : List Event} (h : s.agenda = .resetLine :: rest) :
    fetch s = .run .reset { s with agenda := rest } := by
  simp only [fetch, h]

/-! ### DF_STEP (43_delay_filter.md R131) -/

/-- A CURSOR, as an index of the history. -/
theorem histIndex_u32 (n : Nat) (w : Word) : histIndex n (u32 w) = w.toNat % n := by
  rw [histIndex, u32, ← Int.natCast_emod, Int.toNat_natCast]

theorem Channel.toInt_dfStore (x : Sample) (ch : Channel) :
    (ch.dfStore x).toInt = sat16 (x.toInt + ch.avg.toInt * ch.feedback.toInt / 2 ^ 16) :=
  toInt_toSample_sat16 _

theorem Channel.dfStep_hist (n : Nat) (x : Sample) (ch : Channel) :
    (ch.dfStep n x).1.hist = ch.hist.write (ch.cursor.toNat % n) (ch.dfStore x) := by
  rw [← histIndex_u32]
  rfl

theorem exec_dfStep_next {s : State} {c : Nat} {ch : Channel} (h : s.chan? c = some ch) (x : Sample) :
    exec (.dfStep c x) s =
      .next ((s.setChan c (ch.dfStep s.histLen x).1).returning [(ch.dfStep s.histLen x).2]) := by
  simp only [exec, execDfStep, h]

theorem State.lt_of_chan? {s : State} {c : Nat} {ch : Channel} (h : s.chan? c = some ch) : c < 2 * s.numPairs :=
  (s.chan?_isSome c).mp (by rw [h]; rfl)

end Machine

open Machine

/-- Settles O47: the channel laws of `setChan` leave one write to the history, whose own laws are those of `Memory.write`. -/
theorem delayFilterStoresOneEntry : Obligations.DelayFilterStoresOneEntry := by
  unfold Obligations.DelayFilterStoresOneEntry
  intro s c ch x hc hwf
  have hhist := ch.dfStep_hist s.histLen x
  refine ⟨_, (ch.dfStep s.histLen x).1, exec_dfStep_next hc x, State.chan?_setChan_same (State.lt_of_chan? hc), ?_, ?_, ?_,
    fun _ hne => State.chan?_setChan_other hne⟩
  · rw [hhist]
    exact Memory.wf_write hwf _ _
  · rw [hhist, ← ch.toInt_dfStore x]
    exact congrArg BitVec.toInt (Memory.read_write_same hwf _ _)
  · intro j hj
    rw [hhist]
    exact Memory.read_write_other hwf hj _

/-- Settles O18: each range is reserved, or lies in a block at an offset with no register that serves the access, or lies in a
pair-broadcast block. -/
theorem reservedReadsZeroAndReadOnlyDiscardsWrites : Obligations.ReservedReadsZeroAndReadOnlyDiscardsWrites := by
  unfold Obligations.ReservedReadsZeroAndReadOnlyDiscardsWrites
  refine ⟨fun s b h => ?_, fun s b d hb h => ⟨?_, rfl⟩⟩
  · apply reads_of_readAddr
    rcases h with ⟨hlo, hhi⟩ | ⟨hlo, hhi⟩ | ⟨hlo, -, hoff⟩ | hlo
    · exact State.readAddr_reserved (decodeAddr_above_globals _ hlo hhi)
    · exact State.readAddr_reserved (decodeAddr_absentChan hlo hhi)
    · exact State.readAddr_above_offsets hlo hoff
    · exact State.readAddr_pairBlock hlo
  · rw [decode_write _ hb]
    suffices hign : decodeWrite s.numPairs b d = .writeIgnored b d by rw [hign]
    rcases h with hglob | ⟨hlo, hhi⟩ | ⟨hlo, hhi⟩ | hlo | ⟨hlo, hoff⟩ | ⟨hlo, hoff⟩
    · obtain ⟨r, hr, hrb⟩ : ∃ r ∈ GlobReg.readOnly, r.offset = b.toNat := List.mem_map.mp hglob
      rw [eq_globAddr_of_toNat hrb]
      exact decodeWrite_globAddr_readOnly _ hr d
    · exact decodeWrite_reserved (decodeAddr_above_globals _ hlo hhi) d
    · exact decodeWrite_reserved (decodeAddr_absentChan hlo hhi) d
    · exact decodeWrite_reserved (decodeAddr_absentPair hlo) d
    · exact decodeWrite_ignored_of_offset _ hlo (noWritableAt_above hoff) d
    · exact decodeWrite_ignored_of_offset _ hlo (noWritableAt_readOnly hoff) d

/-- Settles O5: `fetch` finds the decoded transaction, or RESET, and `step` runs what is found. -/
theorem stepRunsTheDecodedTransaction : Obligations.StepRunsTheDecodedTransaction := by
  unfold Obligations.StepRunsTheDecodedTransaction
  refine ⟨fun s ws rest i ha hdec _ => ?_, fun s rest ha => step_of_fetch_run (fetch_resetLine ha)⟩
  have hturn : hostTurn ws { s with agenda := rest } = .run i { s with agenda := rest } := hostTurn_of_decode hdec
  exact step_of_fetch_run ((fetch_txn ha).trans hturn)

end Sys2Proof
end

section
namespace Sys2Proof

/-! ### Addresses back from their decode (30_encoding.md R84, R85) -/

/-- A global register found at an offset has that offset. -/
theorem GlobReg.offset_of_ofOffset {off : Nat} {r : GlobReg} (h : GlobReg.ofOffset off = some r) : r.offset = off := by
  simpa using List.find?_some h

/-- An address in a channel block is its base, the block and the offset. -/
theorem toNat_of_decodeAddr_chan {n : Nat} {b : Addr} {c off : Nat} (h : decodeAddr n b = .chan c off) :
    0x1000 + 0x100 * c + off = b.toNat := by
  simp only [decodeAddr, addrBlock, addrOff, BitVec.extractLsb'_toNat, Nat.shiftRight_eq_div_pow] at h
  split_ifs at h
  · split at h <;> cases h
  · cases h
    omega

/-- An address in a pair-broadcast block is its base, the block and the offset. -/
theorem toNat_of_decodeAddr_pair {n : Nat} {b : Addr} {p off : Nat} (h : decodeAddr n b = .pair p off) :
    0x8000 + 0x100 * p + off = b.toNat := by
  simp only [decodeAddr, addrBlock, addrOff, BitVec.extractLsb'_toNat, Nat.shiftRight_eq_div_pow] at h
  split_ifs at h
  · split at h <;> cases h
  · cases h
    omega

theorem eq_globAddr_of_decodeAddr {n : Nat} {b : Addr} {r : GlobReg} (h : decodeAddr n b = .glob r) : b = globAddr r := by
  simp only [decodeAddr, BitVec.extractLsb'_toNat, Nat.shiftRight_eq_div_pow] at h
  split_ifs at h
  split at h
  · rename_i r' hr
    cases h
    refine eq_globAddr_of_toNat ((GlobReg.offset_of_ofOffset hr).trans ?_)
    omega
  · cases h

theorem eq_chanAddr_of_decodeAddr {n : Nat} {b : Addr} {c off : Nat} {r : ChReg} (h : decodeAddr n b = .chan c off)
    (hr : ChReg.ofOffset off = some r) : b = chanAddr c r := by
  rw [chanAddr, ChReg.offset_of_ofOffset hr, toNat_of_decodeAddr_chan h, BitVec.ofNat_toNat, BitVec.setWidth_eq]

theorem eq_pairAddr_of_decodeAddr {n : Nat} {b : Addr} {p off : Nat} {r : ChReg} (h : decodeAddr n b = .pair p off)
    (hr : ChReg.ofOffset off = some r) : b = pairAddr p r := by
  rw [pairAddr, ChReg.offset_of_ofOffset hr, toNat_of_decodeAddr_pair h, BitVec.ofNat_toNat, BitVec.setWidth_eq]

/-! ### The register addresses are aligned (20_memory.md R65) -/

theorem aligned_ofNat {a : Nat} (h : a % 4 = 0) : aligned (BitVec.ofNat 16 a) = true := by
  rw [aligned_iff, BitVec.toNat_ofNat]
  omega

theorem aligned_globAddr (r : GlobReg) : aligned (globAddr r) = true := by cases r <;> decide

theorem aligned_chanAddr (c : Nat) (r : ChReg) : aligned (chanAddr c r) = true := by
  have hr := r.offset_aligned
  exact aligned_ofNat (by omega)

theorem aligned_pairAddr (p : Nat) (r : ChReg) : aligned (pairAddr p r) = true := by
  have hr := r.offset_aligned
  exact aligned_ofNat (by omega)

theorem RegTarget.aligned_addr (t : RegTarget) : aligned t.addr = true := by
  cases t with
  | chan c r => exact aligned_chanAddr c r
  | bpm | tickRate | tickSpeed => exact aligned_globAddr _

/-! ### The WRITE at a register's address (R86 rows 4 to 9) -/

theorem decodeWrite_of_chan {n : Nat} {b : Addr} {c off : Nat} {r : ChReg} (h : decodeAddr n b = .chan c off)
    (hr : ChReg.ofOffset off = some r) (hw : r.writable = true) (d : Word) :
    decodeWrite n b d = .writeReg (.chan c r) d := by
  simp only [decodeWrite, h, hr, hw, if_true]

theorem decodeWrite_of_pair {n : Nat} {b : Addr} {p off : Nat} {r : ChReg} (h : decodeAddr n b = .pair p off)
    (hr : ChReg.ofOffset off = some r) (hw : r.writable = true) (d : Word) :
    decodeWrite n b d = .writePair p r d := by
  simp only [decodeWrite, h, hr, hw, if_true]

/-- R86 row 9, in a channel block or a pair-broadcast block. -/
theorem decodeWrite_noWritable {n : Nat} {b : Addr} {k off : Nat}
    (h : decodeAddr n b = .chan k off ∨ decodeAddr n b = .pair k off) (hoff : NoWritableAt off) (d : Word) :
    decodeWrite n b d = .writeIgnored b d := by
  rcases h with h | h
  all_goals
    simp only [decodeWrite, h]
    cases hr : ChReg.ofOffset off with
    | none => rfl
    | some r => simp only [hoff r hr, Bool.false_eq_true, if_false]

theorem exists_writableAt {off : Nat} (h : ¬ NoWritableAt off) :
    ∃ r, ChReg.ofOffset off = some r ∧ r.writable = true := by
  simpa [NoWritableAt] using h

theorem decodeWrite_pairAddr {n p : Nat} {r : ChReg} (hn : n ≤ 56) (hp : p < n) (hr : r.writable = true) (d : Word) :
    decodeWrite n (pairAddr p r) d = .writePair p r d :=
  decodeWrite_of_pair (decodeAddr_pairAddr hn hp r) r.ofOffset_offset hr d

theorem decodeWrite_target {n : Nat} {t : RegTarget} (hn : n ≤ 56) (ht : t.ok n = true) (d : Word) :
    decodeWrite n t.addr d = .writeReg t d := by
  cases t with
  | bpm | tickRate | tickSpeed => simp only [decodeWrite, RegTarget.addr, decodeAddr_globAddr]
  | chan c r =>
    simp only [RegTarget.ok, chanOk, Bool.and_eq_true, decide_eq_true_eq] at ht
    obtain ⟨hc, hr⟩ := ht
    exact decodeWrite_of_chan (decodeAddr_chanAddr hn hc r) r.ofOffset_offset hr d

/-- What a WRITE at `b` decodes to, with the address that the instruction found stands for. -/
inductive WriteAt (n : Nat) (b : Addr) (d : Word) : Instr → Prop
  | ctrl (h : b = globAddr .ctrl) : WriteAt n b d (.writeCtrl d)
  | seqAck (h : b = globAddr .seqAck) : WriteAt n b d (.writeSeqAck d)
  | sampleRate (h : b = globAddr .sampleRate) : WriteAt n b d (.writeSampleRate d)
  | pair {p : Nat} {r : ChReg} (hp : p < n) (hr : r.writable = true) (h : b = pairAddr p r) : WriteAt n b d (.writePair p r d)
  | target {t : RegTarget} (ht : t.ok n = true) (h : b = t.addr) : WriteAt n b d (.writeReg t d)
  | ignored (h : decodeWrite n b d = .writeIgnored b d) : WriteAt n b d (.writeIgnored b d)

/-- Every WRITE is one of R86's rows 4 to 9, at the address of that row. -/
theorem decodeWrite_writeAt (n : Nat) (b : Addr) (d : Word) : WriteAt n b d (decodeWrite n b d) := by
  have ignored (e : decodeWrite n b d = .writeIgnored b d) : WriteAt n b d (decodeWrite n b d) := e.symm ▸ .ignored e
  cases hdec : decodeAddr n b with
  | reserved => exact ignored (decodeWrite_reserved hdec d)
  | glob r =>
    obtain rfl := eq_globAddr_of_decodeAddr hdec
    cases r with
    | ctrl => exact .ctrl rfl
    | seqAck => exact .seqAck rfl
    | sampleRate => exact .sampleRate rfl
    | bpm => exact .target (t := .bpm) rfl rfl
    | tickRate => exact .target (t := .tickRate) rfl rfl
    | tickSpeed => exact .target (t := .tickSpeed) rfl rfl
    | _ => exact ignored rfl
  | chan c off =>
    by_cases hoff : NoWritableAt off
    · exact ignored (decodeWrite_noWritable (.inl hdec) hoff d)
    · obtain ⟨r, hr, hw⟩ := exists_writableAt hoff
      have hc : c < 2 * n := decodeAddr_chan_lt hdec
      rw [decodeWrite_of_chan hdec hr hw]
      exact .target (by simp [RegTarget.ok, chanOk, hc, hw]) (eq_chanAddr_of_decodeAddr hdec hr)
  | pair p off =>
    by_cases hoff : NoWritableAt off
    · exact ignored (decodeWrite_noWritable (.inr hdec) hoff d)
    · obtain ⟨r, hr, hw⟩ := exists_writableAt hoff
      rw [decodeWrite_of_pair hdec hr hw]
      exact .pair (decodeAddr_pair_lt hdec) hw (eq_pairAddr_of_decodeAddr hdec hr)

/-- What a WRITE at an aligned address decodes to is well-formed. -/
theorem WriteAt.wf {n : Nat} {b : Addr} {d : Word} {i : Instr} (hb : aligned b = true) (h : WriteAt n b d i) :
    i.wf n = true := by
  cases h with
  | ctrl | seqAck | sampleRate => rfl
  | pair hp hr => simp [Instr.wf, pairOk, hp, hr]
  | target ht => exact ht
  | ignored h => simp [Instr.wf, hb, h]

/-- The words of what a WRITE decodes to are those of the WRITE. -/
theorem WriteAt.encode_eq {n : Nat} {b : Addr} {d : Word} {i : Instr} (h : WriteAt n b d i) :
    encode i = [mkHdr 2 0 b, d] := by
  cases h with
  | ignored => rfl
  | ctrl h | seqAck h | sampleRate h | pair _ _ h | target _ h =>
    subst h
    rfl

/-! ### One transaction, from its words and back (R80, R83, R86) -/

/-- R83: what a transaction that is not void has. -/
theorem isVoid_eq_false_iff {op : BitVec 2} {rsv : BitVec 14} {b : Addr} :
    isVoid op rsv b = false ↔ op ≠ 3 ∧ rsv = 0 ∧ aligned b = true := by
  simp [isVoid, and_assoc]

theorem isVoid_of_aligned {op : BitVec 2} {b : Addr} (hop : op ≠ 3) (hb : aligned b = true) : isVoid op 0 b = false :=
  isVoid_eq_false_iff.mpr ⟨hop, rfl, hb⟩

theorem op_eq_one : ∀ {op : BitVec 2}, op ≠ 2 → op ≠ 3 → op ≠ 0 → op = 1 := by decide

/-- R80: a header whose OP is not 10 is the whole transaction. -/
theorem decode_oneWord (n : Nat) {op : BitVec 2} (hop : op ≠ 2) (rsv : BitVec 14) (b : Addr) (rest : List Word) :
    decode n (mkHdr op rsv b :: rest) =
      .ok (if isVoid op rsv b then .void op rsv b none else if op = 0 then .nop b else .read b, rest) := by
  simp only [decode, hdrOp_mkHdr, hdrRsv_mkHdr, hdrBaddr_mkHdr, if_neg hop]
  split_ifs <;> rfl

/-- R80: a header whose OP is 10 takes the next word as DATA. -/
theorem decode_twoWords (n : Nat) (rsv : BitVec 14) (b : Addr) (d : Word) (rest : List Word) :
    decode n (mkHdr 2 rsv b :: d :: rest) =
      .ok (if isVoid 2 rsv b then .void 2 rsv b (some d) else decodeWrite n b d, rest) := by
  simp only [decode, hdrOp_mkHdr, hdrRsv_mkHdr, hdrBaddr_mkHdr, if_true]
  split_ifs <;> rfl

theorem decode_noData (n : Nat) (rsv : BitVec 14) (b : Addr) : decode n [mkHdr 2 rsv b] = .error .noData := by
  simp only [decode, hdrOp_mkHdr, if_true]

/-- R83: a void transaction keeps the fields of its header. -/
theorem decode_void {op : BitVec 2} {rsv : BitVec 14} {b : Addr} {data : Option Word} (n : Nat)
    (hv : isVoid op rsv b = true) (hdata : data.isSome = (op == 2)) (rest : List Word) :
    decode n (mkHdr op rsv b :: data.toList ++ rest) = .ok (.void op rsv b data, rest) := by
  cases data with
  | none =>
    have hop : op ≠ 2 := by simpa using hdata
    exact (decode_oneWord n hop rsv b rest).trans (by rw [hv]; rfl)
  | some d =>
    obtain rfl : op = 2 := by simpa using hdata
    exact (decode_twoWords n rsv b d rest).trans (by rw [hv]; rfl)

theorem decode_alignedOneWord {op : BitVec 2} {b : Addr} (n : Nat) (hop : op ≠ 2) (hop' : op ≠ 3) (hb : aligned b = true)
    (rest : List Word) : decode n (mkHdr op 0 b :: rest) = .ok (if op = 0 then .nop b else .read b, rest) := by
  rw [decode_oneWord n hop, isVoid_of_aligned hop' hb]
  rfl

theorem decode_alignedWrite {b : Addr} (n : Nat) (hb : aligned b = true) (d : Word) (rest : List Word) :
    decode n (mkHdr 2 0 b :: d :: rest) = .ok (decodeWrite n b d, rest) := by
  rw [decode_twoWords, isVoid_of_aligned (by decide) hb]
  rfl

/-- Words that the decoder accepts, as a header of named fields and what follows it: a void transaction, NOP, READ or WRITE. -/
theorem decode_cases {n : Nat} {ws rest : List Word} {i : Instr} (h : decode n ws = .ok (i, rest)) :
    (∃ op rsv b data, isVoid op rsv b = true ∧ data.isSome = (op == 2) ∧ i = .void op rsv b data ∧
      ws = mkHdr op rsv b :: data.toList ++ rest) ∨
    (∃ b, aligned b = true ∧ i = .nop b ∧ ws = mkHdr 0 0 b :: rest) ∨
    (∃ b, aligned b = true ∧ i = .read b ∧ ws = mkHdr 1 0 b :: rest) ∨
    (∃ b d, aligned b = true ∧ i = decodeWrite n b d ∧ ws = mkHdr 2 0 b :: d :: rest) := by
  obtain _ | ⟨hdr, tail⟩ := ws
  · cases h
  obtain ⟨op, rsv, b, rfl⟩ : ∃ op rsv b, hdr = mkHdr op rsv b := ⟨_, _, _, (mkHdr_fields hdr).symm⟩
  by_cases hop : op = 2
  · subst hop
    obtain _ | ⟨d, tail⟩ := tail
    · rw [decode_noData] at h
      cases h
    rw [decode_twoWords] at h
    cases hv : isVoid 2 rsv b with
    | true =>
      rw [hv] at h
      cases h
      exact .inl ⟨2, rsv, b, some d, hv, rfl, rfl, rfl⟩
    | false =>
      obtain ⟨-, rfl, hb⟩ := isVoid_eq_false_iff.mp hv
      rw [hv] at h
      cases h
      exact .inr (.inr (.inr ⟨b, d, hb, rfl, rfl⟩))
  · rw [decode_oneWord n hop] at h
    cases hv : isVoid op rsv b with
    | true =>
      rw [hv] at h
      cases h
      exact .inl ⟨op, rsv, b, none, hv, (beq_false_of_ne hop).symm, rfl, rfl⟩
    | false =>
      obtain ⟨hop3, rfl, hb⟩ := isVoid_eq_false_iff.mp hv
      rw [hv] at h
      by_cases hop0 : op = 0
      · subst hop0
        cases h
        exact .inr (.inl ⟨b, hb, rfl, rfl⟩)
      · obtain rfl := op_eq_one hop hop3 hop0
        cases h
        exact .inr (.inr (.inl ⟨b, hb, rfl, rfl⟩))

/-- Settles O1: a void header comes back field by field, NOP and READ by OP, and a WRITE by the decode of its register's address. -/
theorem decodeOfEncodeIsTheTransaction : Obligations.DecodeOfEncodeIsTheTransaction := by
  unfold Obligations.DecodeOfEncodeIsTheTransaction
  intro n i rest hn hi hwf
  cases i with
  | void op rsv b data =>
    simp only [Instr.wf, Bool.and_eq_true, beq_iff_eq] at hwf
    obtain ⟨hv, hdata⟩ := hwf
    exact decode_void n hv hdata rest
  | nop b | read b => exact decode_alignedOneWord n (by decide) (by decide) hwf rest
  | writeCtrl d | writeSeqAck d | writeSampleRate d => exact decode_alignedWrite n (aligned_globAddr _) d rest
  | writePair p r d =>
    simp only [Instr.wf, pairOk, Bool.and_eq_true, decide_eq_true_eq] at hwf
    obtain ⟨hp, hr⟩ := hwf
    exact (decode_alignedWrite n (aligned_pairAddr p r) d rest).trans (by rw [decodeWrite_pairAddr hn hp hr])
  | writeReg t d => exact (decode_alignedWrite n t.aligned_addr d rest).trans (by rw [decodeWrite_target hn hwf])
  | writeIgnored b d =>
    simp only [Instr.wf, Bool.and_eq_true, beq_iff_eq] at hwf
    obtain ⟨hb, hign⟩ := hwf
    exact (decode_alignedWrite n hb d rest).trans (by rw [hign])
  | _ => cases hi

/-- Settles O2: of the four kinds of accepted words the WRITE alone needs the address decode to be undone. -/
theorem encodeOfDecodeIsTheWords : Obligations.EncodeOfDecodeIsTheWords := by
  unfold Obligations.EncodeOfDecodeIsTheWords
  intro n ws rest i _ h
  refine ⟨decode_isTransaction h, ?_⟩
  obtain ⟨op, rsv, b, data, hv, hdata, rfl, rfl⟩ | ⟨b, hb, rfl, rfl⟩ | ⟨b, hb, rfl, rfl⟩ | ⟨b, d, hb, rfl, rfl⟩ :=
    decode_cases h
  · exact ⟨by simp only [Instr.wf, hv, hdata, Bool.true_and, beq_self_eq_true], rfl⟩
  · exact ⟨hb, rfl⟩
  · exact ⟨hb, rfl⟩
  · have hw := decodeWrite_writeAt n b d
    exact ⟨hw.wf hb, by rw [hw.encode_eq]; rfl⟩

/-- Settles O3: one header for each kind of transaction, decoded by evaluation. -/
theorem wordsOfTheSpecDecode : Obligations.WordsOfTheSpecDecode := by
  unfold Obligations.WordsOfTheSpecDecode
  decide

end Sys2Proof
end

section
namespace Sys2Proof.Machine

/-! ### When a step stops (60_exceptions.md R170) -/

/-- R170: no host transaction raises an error. -/
theorem transaction_next {i : Instr} (hi : i.isTransaction = true) (s : State) : ∃ t, exec i s = .next t := by
  cases i with
  | void op rsv b data =>
    by_cases hop : op = 1
    · exact ⟨s.respond 0, if_pos hop⟩
    · exact ⟨s, if_neg hop⟩
  | nop | read | writeCtrl | writeSeqAck | writeSampleRate | writePair | writeReg | writeIgnored => exact ⟨_, rfl⟩
  | _ => cases hi

theorem step_of_fetch_hold {s s' : State} (h : fetch s = .hold s') : step s = .next s' := by
  simp only [step, h]

theorem step_of_fetch_reject {s : State} {r : Refusal} (h : fetch s = .reject r) : step s = .refused r := by
  simp only [step, h]

theorem hostTurn_of_error {s : State} {ws : List Word} {e : DecodeError} (h : decode s.numPairs ws = .error e) :
    hostTurn ws s = .reject (.badTransaction e) := by
  simp only [hostTurn, h]

theorem hostTurn_of_trailing {s : State} {ws more : List Word} {i : Instr} {w : Word}
    (h : decode s.numPairs ws = .ok (i, w :: more)) : hostTurn ws s = .reject (.trailingWords (more.length + 1)) := by
  simp only [hostTurn, h, List.length_cons]

/-- A turn of the core always answers (45_mixer_control.md R150). -/
theorem step_next_of_fetch_coreTurn {s s' : State} (h : fetch s = coreTurn s') : ∃ t, step s = .next t := by
  obtain ⟨hturn, -⟩ | ⟨hturn, -⟩ | ⟨hturn, -⟩ := coreTurn_cases s' <;> rw [hturn] at h
  · exact ⟨_, step_of_fetch_hold h⟩
  · exact ⟨_, step_of_fetch_run h⟩
  · exact ⟨_, step_of_fetch_run h⟩

/-! ### The pair step and its variants (44_pair_worker.md R142, 30_encoding.md R93) -/

theorem exec_selectPair (m : BitVec 2) (p : Nat) (s : State) :
    exec (selectPair m p) s = onPair p (Pair.stepAs Config.waveFn s.histLen (decodeMode m)) s := by
  unfold selectPair
  cases decodeMode m <;> rfl

theorem State.setPair_getElem? {s : State} {p : Nat} {pr : Pair} (h : s.pairs[p]? = some pr) (q : Pair) :
    (s.setPair p q).pairs[p]? = some q := by
  simp [h]

/-- A channel with its MODE replaced. -/
def Channel.withMode (m : BitVec 2) (ch : Channel) : Channel := { ch with mode := m }

/-- R140: the advance writes PHASE alone. -/
theorem Channel.ncoAdvance_eq (ch : Channel) :
    ch.ncoAdvance =
      { ch with
        phase :=
          if ch.length.toNat = 0 then 0
          else BitVec.ofNat 32 ((ch.phase.toNat + ch.period.toNat) % ch.length.toNat) } := by
  unfold Channel.ncoAdvance
  split <;> rfl

theorem Channel.ncoAdvance_withMode (m : BitVec 2) (ch : Channel) :
    (ch.withMode m).ncoAdvance = ch.ncoAdvance.withMode m := by
  rw [Channel.ncoAdvance_eq, Channel.ncoAdvance_eq]
  rfl

theorem syncRight_withMode (v : PairMode) (wrapL : Bool) (m : BitVec 2) (r : Channel) :
    syncRight v wrapL (r.withMode m) = (syncRight v wrapL r).withMode m := by
  unfold syncRight
  split <;> rfl

/-- R142: the right channel's MODE has no effect on a pair's outputs. -/
theorem Pair.step_outputs_right_withMode (wave : WaveFn) (n : Nat) (m : BitVec 2) (pr : Pair) :
    (Pair.step wave n { pr with right := pr.right.withMode m }).2 = (pr.step wave n).2 := by
  simp only [Pair.step, Pair.stepAs, Channel.ncoAdvance_withMode, syncRight_withMode]
  rfl

end Sys2Proof.Machine

namespace Sys2Proof
open Machine

/-- Settles O7: the core's turns and the reset input answer, and so does every transaction; a host turn is refused exactly when the
decoder refuses its words or leaves some over. -/
theorem stepStopsOnlyAtAPartTransaction : Obligations.StepStopsOnlyAtAPartTransaction := by
  unfold Obligations.StepStopsOnlyAtAPartTransaction
  intro s
  rcases ha : s.agenda with _ | ⟨_ | _ | _, rest⟩
  case nil => exact .inl (step_next_of_fetch_coreTurn (s' := s) (by simp only [fetch, ha]))
  case cons.coreTurn =>
    exact .inl (step_next_of_fetch_coreTurn (s' := { s with agenda := rest }) (by simp only [fetch, ha]))
  case cons.resetLine => exact .inl ⟨_, step_of_fetch_run (fetch_resetLine ha)⟩
  case cons.txn ws =>
    have hfetch := fetch_txn ha
    rcases hdec : decode s.numPairs ws with e | ⟨i, _ | ⟨w, more⟩⟩
    · have hturn : hostTurn ws { s with agenda := rest } = .reject (.badTransaction e) := hostTurn_of_error hdec
      exact .inr ⟨ws, rest, rfl, .inl ⟨e, hdec, step_of_fetch_reject (hfetch.trans hturn)⟩⟩
    · obtain ⟨t, ht⟩ := transaction_next (decode_isTransaction hdec) { s with agenda := rest }
      exact .inl ⟨t, (step_of_fetch_run (hfetch.trans (hostTurn_of_decode hdec))).trans ht⟩
    · have hturn : hostTurn ws { s with agenda := rest } = .reject (.trailingWords (more.length + 1)) :=
        hostTurn_of_trailing hdec
      exact .inr ⟨ws, rest, rfl, .inr ⟨i, w, more, hdec, step_of_fetch_reject (hfetch.trans hturn)⟩⟩

/-- Settles O53: PAIR_STEP and the selected PAIR.* are the same operation on the pair, whose outputs the right MODE does not reach. -/
theorem leftModeSelectsTheVariant : Obligations.LeftModeSelectsTheVariant := by
  unfold Obligations.LeftModeSelectsTheVariant
  intro s p pr hp
  refine ⟨_, onPair_next _ hp, ?_, fun m => ⟨_, onPair_next _ (State.setPair_getElem? hp _), ?_⟩⟩
  · rw [exec_selectPair, onPair_next _ hp]
    rfl
  · have hout := Pair.step_outputs_right_withMode Config.waveFn s.histLen m pr
    exact congrArg (fun o => [o.1, o.2]) hout

end Sys2Proof
end

section
namespace Sys2Proof.Machine

/-! ### The table of roots (40_note_pitch.md R101) -/

/-- R101: the frequency ratio of one note unit, 1/65536 of a semitone. -/
noncomputable def noteRoot : ℝ := 2 ^ ((1 : ℝ) / pitchDen)

theorem noteRoot_pos : 0 < noteRoot := Real.rpow_pos_of_pos two_pos _

theorem pitchDen_cast_ne_zero : (pitchDen : ℝ) ≠ 0 := by norm_num [pitchDen]

theorem noteRoot_pow (r : Nat) : noteRoot ^ r = 2 ^ ((r : ℝ) / pitchDen) := by
  rw [noteRoot, ← Real.rpow_mul_natCast two_pos.le, one_div_mul_eq_div]

theorem noteRoot_pow_pitchDen : noteRoot ^ pitchDen = 2 := by
  rw [noteRoot_pow, div_self pitchDen_cast_ne_zero, Real.rpow_one]

/-- What the table says of an entry `t` for the number `x`: at most `x`, and short of it by at most 2 units. -/
def RootBounds (x : ℝ) (t : Nat) : Prop := (t : ℝ) ≤ x * 2 ^ rootBits ∧ x * 2 ^ rootBits ≤ t + 2

/-- The entries stand for `x`, `x^2`, `x^4` and so on. -/
def RootsOf : ℝ → List Nat → Prop
  | _, [] => True
  | x, t :: ts => RootBounds x t ∧ RootsOf (x ^ 2) ts

/-- The bounds that an entry `u` gives for a number hold of `t` for its square root. -/
abbrev SquaresTo (t u : Nat) : Prop := t ^ 2 ≤ u * 2 ^ rootBits ∧ (u + 2) * 2 ^ rootBits ≤ (t + 2) ^ 2

theorem RootBounds.of_sq {x : ℝ} {t u : Nat} (hx : 0 ≤ x) (htu : SquaresTo t u) (hu : RootBounds (x ^ 2) u) :
    RootBounds x t := by
  obtain ⟨hlo, hhi⟩ := htu
  obtain ⟨hulo, huhi⟩ := hu
  have hlo' : (t : ℝ) ^ 2 ≤ u * 2 ^ rootBits := mod_cast hlo
  have hhi' : ((u : ℝ) + 2) * 2 ^ rootBits ≤ (t + 2) ^ 2 := mod_cast hhi
  have hsq : (x * 2 ^ rootBits) ^ 2 = x ^ 2 * 2 ^ rootBits * 2 ^ rootBits := by ring
  refine ⟨le_of_sq_le_sq (hlo'.trans ?_) (by positivity), le_of_sq_le_sq (le_trans ?_ hhi') (by positivity)⟩ <;>
    rw [hsq] <;> gcongr

/-- The bounds of the last entry go down the table, from each number to its square root. -/
theorem rootsOf_of_isChain {x : ℝ} {t : Nat} {ts : List Nat} (hx : 0 ≤ x) (h : (t :: ts).IsChain SquaresTo)
    (hlast : RootBounds (x ^ 2 ^ ts.length) ((t :: ts).getLast (List.cons_ne_nil t ts))) : RootsOf x (t :: ts) := by
  induction ts generalizing x t with
  | nil => exact ⟨by simpa using hlast, trivial⟩
  | cons u us ih =>
    obtain ⟨htu, hus⟩ := List.isChain_cons_cons.mp h
    rw [List.length_cons, pow_succ', pow_mul] at hlast
    have hroots : RootsOf (x ^ 2) (u :: us) := ih (sq_nonneg x) hus hlast
    obtain ⟨hu, htail⟩ := hroots
    exact ⟨hu.of_sq hx htu, hu, htail⟩

/-- The last entry stands for `2^(2/3)`, the cube root of 4. -/
theorem rootBounds_of_cube {x : ℝ} {t : Nat} (hx : 0 ≤ x) (hcube : x ^ 3 = 4)
    (hlo : t ^ 3 ≤ 4 * (2 ^ rootBits) ^ 3) (hhi : 4 * (2 ^ rootBits) ^ 3 ≤ (t + 2) ^ 3) : RootBounds x t := by
  have hlo' : (t : ℝ) ^ 3 ≤ 4 * (2 ^ rootBits) ^ 3 := mod_cast hlo
  have hhi' : (4 : ℝ) * (2 ^ rootBits) ^ 3 ≤ (t + 2) ^ 3 := mod_cast hhi
  rw [← hcube, ← mul_pow] at hlo' hhi'
  exact ⟨le_of_pow_le_pow_left₀ three_ne_zero (by positivity) hlo',
    le_of_pow_le_pow_left₀ three_ne_zero (by positivity) hhi'⟩

theorem rootsOf_rootTable : RootsOf noteRoot rootTable := by
  have hcube : (noteRoot ^ 2 ^ 19) ^ 3 = 4 :=
    calc (noteRoot ^ 2 ^ 19) ^ 3 = (noteRoot ^ pitchDen) ^ 2 := by
          rw [← pow_mul, ← pow_mul, show 2 ^ 19 * 3 = pitchDen * 2 by decide]
      _ = 4 := by norm_num [noteRoot_pow_pitchDen]
  exact rootsOf_of_isChain noteRoot_pos.le (by decide)
    (rootBounds_of_cube (pow_nonneg noteRoot_pos.le _) hcube (by decide) (by decide))

/-! ### The bounds of the power of two -/

theorem natDiv_cast_le_mul {acc t : Nat} {x : ℝ} (ht : (t : ℝ) ≤ x * 2 ^ rootBits) :
    ((acc * t / 2 ^ rootBits : Nat) : ℝ) ≤ acc * x := by
  refine Nat.cast_div_le.trans ?_
  push_cast
  rw [div_le_iff₀ (by positivity), mul_assoc]
  gcongr

theorem mul_le_natDiv_cast_add_one {acc t : Nat} {x : ℝ} (ht : x * 2 ^ rootBits ≤ t) :
    acc * x ≤ ((acc * t / 2 ^ rootBits + 1 : Nat) : ℝ) := by
  have hlt : acc * t < 2 ^ rootBits * (acc * t / 2 ^ rootBits + 1) := Nat.lt_mul_div_succ _ (Nat.two_pow_pos _)
  have hle : (acc : ℝ) * t ≤ 2 ^ rootBits * (acc * t / 2 ^ rootBits + 1 : Nat) := mod_cast hlt.le
  refine le_of_mul_le_mul_left (le_trans ?_ hle) (by positivity : (0 : ℝ) < 2 ^ rootBits)
  rw [mul_left_comm, mul_comm _ x]
  gcongr

theorem pow_eq_bit_mul_sq_pow (x : ℝ) (r : Nat) : x ^ r = (if r % 2 = 1 then x else 1) * (x ^ 2) ^ (r / 2) := by
  conv_lhs => rw [← Nat.mod_add_div r 2, pow_add, pow_mul]
  obtain h | h := Nat.mod_two_eq_zero_or_one r <;> simp [h]

/-- The lower bound holds: each root is at most its number, and each product is rounded down. -/
theorem expLo_le {x : ℝ} {ts : List Nat} {r acc : Nat} (hx : 0 ≤ x) (hts : RootsOf x ts) (hr : r < 2 ^ ts.length) :
    (expLo ts r acc : ℝ) ≤ acc * x ^ r := by
  induction ts generalizing x r acc with
  | nil =>
    obtain rfl : r = 0 := by simpa using hr
    simp [expLo]
  | cons t ts ih =>
    obtain ⟨⟨hlo, -⟩, hts⟩ := hts
    have hr' : r / 2 < 2 ^ ts.length := by rw [List.length_cons, pow_succ] at hr; omega
    refine (ih (sq_nonneg x) hts hr').trans ?_
    rw [pow_eq_bit_mul_sq_pow x r, ← mul_assoc]
    gcongr
    split
    · exact natDiv_cast_le_mul hlo
    · simp

/-- The upper bound holds: each root is raised by 2 units, and each product is rounded up. -/
theorem le_expHi {x : ℝ} {ts : List Nat} {r acc : Nat} (hx : 0 ≤ x) (hts : RootsOf x ts) (hr : r < 2 ^ ts.length) :
    acc * x ^ r ≤ (expHi ts r acc : ℝ) := by
  induction ts generalizing x r acc with
  | nil =>
    obtain rfl : r = 0 := by simpa using hr
    simp [expHi]
  | cons t ts ih =>
    obtain ⟨⟨-, hhi⟩, hts⟩ := hts
    have hr' : r / 2 < 2 ^ ts.length := by rw [List.length_cons, pow_succ] at hr; omega
    refine le_trans ?_ (ih (sq_nonneg x) hts hr')
    rw [pow_eq_bit_mul_sq_pow x r, ← mul_assoc]
    gcongr
    split
    · exact mul_le_natDiv_cast_add_one (mod_cast hhi)
    · simp

/-! ### The exact period (40_note_pitch.md R102) -/

/-- R102's real value `freq(n) * len / rate`, with the exponent over `pitchDen`. -/
noncomputable def realPeriod (n len rate : Word) : ℝ :=
  440 * 2 ^ ((pitchExp n : ℝ) / pitchDen) * len.toNat / rate.toNat

theorem realPeriod_nonneg (n len rate : Word) : 0 ≤ realPeriod n len rate := by
  unfold realPeriod
  positivity

theorem pitchExp_div_pitchDen (n : Word) : (pitchExp n : ℝ) / pitchDen = ((n.toInt : ℝ) / 65536 - 69) / 12 := by
  simp only [pitchExp, pitchDen]
  push_cast
  ring

theorem two_zpow_eq_div (e : Int) : (2 : ℝ) ^ e = 2 ^ e.toNat / 2 ^ (-e).toNat := by
  obtain ⟨k, rfl | rfl⟩ := e.eq_nat_or_neg <;> simp

/-- An exponent splits into whole octaves and the note units above them. -/
theorem two_rpow_pitch (e : Int) :
    (2 : ℝ) ^ ((e : ℝ) / pitchDen) = 2 ^ (e / pitchDen) * noteRoot ^ (e % pitchDen).toNat := by
  have hr : ((e % pitchDen).toNat : Int) = e % pitchDen := Int.toNat_of_nonneg (Int.emod_nonneg _ (by decide))
  have he : (e : ℝ) = pitchDen * (e / pitchDen : Int) + (e % pitchDen).toNat := by
    exact_mod_cast (hr ▸ Int.mul_ediv_add_emod e pitchDen).symm
  rw [he, add_div, mul_div_cancel_left₀ _ pitchDen_cast_ne_zero, Real.rpow_add two_pos, Real.rpow_intCast,
    noteRoot_pow]

theorem two_rpow_pitch_pow (e : Int) : ((2 : ℝ) ^ ((e : ℝ) / pitchDen)) ^ pitchDen = 2 ^ e := by
  rw [← Real.rpow_mul_natCast two_pos.le, div_mul_cancel₀ _ pitchDen_cast_ne_zero, Real.rpow_intCast]

theorem periodScaled_eq (len rate : Word) (q : Int) (m : Nat) :
    periodScaled len rate q m =
      min ⌊440 * (2 ^ q * (m / 2 ^ rootBits)) * (len.toNat : ℝ) / rate.toNat⌋₊ periodMax := by
  rw [periodScaled, ← Nat.floor_div_eq_div (K := ℝ), two_zpow_eq_div]
  congr 2
  push_cast
  field_simp

theorem periodScaled_le {n len rate : Word} {m : Nat}
    (hm : (m : ℝ) ≤ 2 ^ rootBits * noteRoot ^ (pitchExp n % pitchDen).toNat) :
    periodScaled len rate (pitchExp n / pitchDen) m ≤ min ⌊realPeriod n len rate⌋₊ periodMax := by
  rw [periodScaled_eq, realPeriod, two_rpow_pitch]
  gcongr
  rwa [div_le_iff₀' (by positivity)]

theorem le_periodScaled {n len rate : Word} {m : Nat}
    (hm : 2 ^ rootBits * noteRoot ^ (pitchExp n % pitchDen).toNat ≤ (m : ℝ)) :
    min ⌊realPeriod n len rate⌋₊ periodMax ≤ periodScaled len rate (pitchExp n / pitchDen) m := by
  rw [periodScaled_eq, realPeriod, two_rpow_pitch]
  gcongr
  rwa [le_div_iff₀' (by positivity)]

theorem periodQuick_eq_some {n len rate : Word} {k : Nat} (h : periodQuick n len rate = some k) :
    k = min ⌊realPeriod n len rate⌋₊ periodMax := by
  have hr : (pitchExp n % pitchDen).toNat < 2 ^ rootTable.length := by
    have : pitchExp n % pitchDen < pitchDen := Int.emod_lt_of_pos _ (by decide)
    have : pitchDen < 2 ^ rootTable.length := by decide
    omega
  have hlo := periodScaled_le (len := len) (rate := rate) (n := n)
    (mod_cast expLo_le (acc := 2 ^ rootBits) noteRoot_pos.le rootsOf_rootTable hr)
  have hhi := le_periodScaled (len := len) (rate := rate) (n := n)
    (mod_cast le_expHi (acc := 2 ^ rootBits) noteRoot_pos.le rootsOf_rootTable hr)
  simp only [periodQuick] at h
  split at h
  case isTrue heq =>
    cases h
    exact hlo.antisymm (heq ▸ hhi)
  case isFalse => cases h

/-- The test of the search, both sides raised to the power `pitchDen`, is that of the real value. -/
theorem periodAtLeast_iff {n len rate : Word} (hrate : rate.toNat ≠ 0) (k : Nat) :
    periodAtLeast n len rate k = true ↔ k ≤ ⌊realPeriod n len rate⌋₊ := by
  have hrate' : (0 : ℝ) < rate.toNat := by positivity
  calc periodAtLeast n len rate k = true
      ↔ ((k * rate.toNat) ^ pitchDen * 2 ^ (-pitchExp n).toNat : ℝ)
          ≤ (440 * len.toNat) ^ pitchDen * 2 ^ (pitchExp n).toNat := by
        rw [periodAtLeast, decide_eq_true_iff]
        exact_mod_cast Iff.rfl
    _ ↔ (k * rate.toNat : ℝ) ^ pitchDen ≤ (440 * 2 ^ ((pitchExp n : ℝ) / pitchDen) * len.toNat) ^ pitchDen := by
        rw [mul_right_comm, mul_pow _ (_ ^ _), two_rpow_pitch_pow, two_zpow_eq_div, ← mul_div_assoc,
          le_div_iff₀ (by positivity)]
    _ ↔ (k * rate.toNat : ℝ) ≤ 440 * 2 ^ ((pitchExp n : ℝ) / pitchDen) * len.toNat :=
        pow_le_pow_iff_left₀ (by positivity) (by positivity) (by decide)
    _ ↔ k ≤ ⌊realPeriod n len rate⌋₊ := by
        rw [Nat.le_floor_iff (realPeriod_nonneg n len rate), realPeriod, le_div_iff₀ hrate']

theorem greatest_eq {p : Nat → Bool} {N : Nat} (hp : ∀ k, p k = true ↔ k ≤ N) (b : Nat) {acc : Nat} (hacc : acc ≤ N) :
    greatest p b acc = min N (acc + 2 ^ b - 1) := by
  induction b generalizing acc with
  | zero => simp [greatest, hacc]
  | succ b ih =>
    have := Nat.two_pow_pos b
    rw [greatest, pow_succ]
    split
    case isTrue h =>
      rw [ih ((hp _).mp h)]
      omega
    case isFalse h =>
      rw [hp] at h
      rw [ih hacc]
      omega

theorem periodExact_eq {n len rate : Word} (hrate : rate.toNat ≠ 0) :
    periodExact n len rate = min ⌊realPeriod n len rate⌋₊ periodMax := by
  rw [periodExact, if_neg hrate, greatest_eq (periodAtLeast_iff hrate) 32 (Nat.zero_le _)]
  rfl

theorem periodFn_toNat {n len rate : Word} (hrate : rate.toNat ≠ 0) :
    (periodFn n len rate).toNat = min ⌊realPeriod n len rate⌋₊ periodMax := by
  have hlt : min ⌊realPeriod n len rate⌋₊ periodMax < 2 ^ 32 := by
    have : periodMax < 2 ^ 32 := by decide
    omega
  rw [periodFn, if_neg hrate]
  split
  next k hk => rw [periodQuick_eq_some hk, BitVec.toNat_ofNat, Nat.mod_eq_of_lt hlt]
  next => rw [periodExact_eq hrate, BitVec.toNat_ofNat, Nat.mod_eq_of_lt hlt]

end Sys2Proof.Machine

namespace Sys2Proof
open Machine

/-- Settles O38: where the bounds of the power of two agree, the real value is between them; where they do not, the search by bits
finds the greatest period that the real value reaches. -/
theorem periodIsTheExactFloor : Obligations.PeriodIsTheExactFloor := by
  unfold Obligations.PeriodIsTheExactFloor
  intro n len rate
  split
  case isTrue h => subst h; rfl
  case isFalse h =>
    have hrate : rate.toNat ≠ 0 := fun h0 => h (BitVec.eq_of_toNat_eq h0)
    rw [periodFn_toNat hrate, realPeriod, pitchExp_div_pitchDen]
    rfl

/-- Settles O39, by evaluation in the kernel: the two extreme notes need powers of two past the elaborator's limit on exponents. -/
theorem periodReferenceValues : Obligations.PeriodReferenceValues := by
  unfold Obligations.PeriodReferenceValues
  decide +kernel

end Sys2Proof
end

section
namespace Sys2Proof.Machine
open Sys2Proof.Statements

/-! ### Words from integers (00_scope.md R13) -/

/-- `wrapS_32` of a signed sum is the 32-bit sum. -/
theorem toWord_toInt_add_toInt (a b : Word) : toWord (a.toInt + b.toInt) = a + b := by
  rw [toWord, BitVec.ofInt_add, BitVec.ofInt_toInt, BitVec.ofInt_toInt]

/-- `wrapU_32` of a register one up. -/
theorem toWord_u32_add_one (w : Word) : toWord (u32 w + 1) = w + 1 := by
  rw [toWord, u32, BitVec.ofInt_add, BitVec.ofInt_natCast, BitVec.ofNat_toNat, BitVec.setWidth_eq]
  rfl

/-- `wrapU_64` of COUNT and an interval. -/
theorem toCount_toNat_add (n : Count) (v : Int) : toCount (n.toNat + v) = n + BitVec.ofInt 64 v := by
  rw [toCount, BitVec.ofInt_add, BitVec.ofInt_natCast, BitVec.ofNat_toNat, BitVec.setWidth_eq]

theorem noteEff_eq_add (note vibLevel : Word) : noteEff note vibLevel = note + vibLevel :=
  toWord_toInt_add_toInt note vibLevel

/-- The truncating division of unsigned values is that of the natural numbers. -/
theorem tdiv_natCast (a b : Nat) : tdiv a b = ((a / b : Nat) : Int) := (Int.ofNat_tdiv a b).symm

/-! ### What the steps leave in the registers they write (41_tick_scheduler.md R113 to R119) -/

@[simp] theorem Channel.slideNote_note (ch : Channel) : ch.slideNote.note = ch.note + ch.slide :=
  toWord_toInt_add_toInt ch.note ch.slide

theorem Channel.toInt_fadeVol_postVol (ch : Channel) :
    ch.fadeVol.postVol.toInt = min (max (ch.postVol.toInt + ch.fade.toInt) 0) (2 ^ 31 - 1) := by
  have hmax : s32Max = 2 ^ 31 - 1 := rfl
  simp only [Channel.fadeVol, hmax]
  exact toInt_toWord (by omega) (by omega)

@[simp] theorem Channel.envAdvance_envPos (ch : Channel) : ch.envAdvance.envPos = ch.envPos + 1 :=
  toWord_u32_add_one ch.envPos

/-- 42_envelope_lfo.md R126: ENV_POS is one up whichever variant is taken. -/
@[simp] theorem Channel.env_envPos (ch : Channel) : ch.env.envPos = ch.envPos + 1 := by
  unfold Channel.env
  split_ifs <;> simp [Channel.envIdle, Channel.envSustain]

theorem Channel.toInt_envDecay_preVol (ch : Channel) :
    ch.envDecay.preVol.toInt = min (max (ch.preVol.toInt - ch.decay.toInt) 0) (2 ^ 31 - 1) := by
  have hmax : s32Max = 2 ^ 31 - 1 := rfl
  simp only [Channel.envDecay, hmax]
  exact toInt_toWord (by omega) (by omega)

/-- 42_envelope_lfo.md R120: PRE_VOL after the first variant whose condition holds. -/
theorem Channel.toInt_env_preVol (ch : Channel) :
    ch.env.preVol.toInt =
      if ch.release.toInt < 1 then ch.preVol.toInt
      else if ch.noteOn = false then max (ch.preVol.toInt - ch.release.toInt) 0
      else if 1 ≤ ch.attack.toInt ∧ (ch.envPos.toNat : Int) < Int.tdiv ch.peak.toInt ch.attack.toInt then
        min (ch.preVol.toInt + ch.attack.toInt) 0x10000
      else if ch.sustain.toInt < ch.preVol.toInt then min (max (ch.preVol.toInt - ch.decay.toInt) 0) (2 ^ 31 - 1)
      else ch.preVol.toInt := by
  simp only [Channel.env, Channel.attackDue_iff]
  split_ifs with hrelease hoff hattack hdecay
  · rfl
  · exact Channel.envRelease_preVol (by omega)
  · exact Channel.envAttack_preVol hattack.1
  · exact ch.toInt_envDecay_preVol
  · rfl

@[simp] theorem Channel.dreq_delayReq (d : Nat) (tr : Word) (v : Int) (ch : Channel) : (ch.dreq d tr v).delayReq = 0 := by
  unfold Channel.dreq
  split_ifs <;> rfl

/-- A resolved request leaves the smaller of the count and MAX_DELAY, for a count that is not negative. -/
theorem Channel.toNat_resolveDelay_delay {d : Nat} (hd : d < 4294967296) {v : Int} (hv : 0 ≤ v) (ch : Channel) :
    ((ch.resolveDelay d v).delay.toNat : Int) = min v d := by
  simp only [Channel.resolveDelay]
  rw [toNat_toWord (by omega) (by omega)]
  omega

theorem Channel.toNat_clampWidth_filterW {w : Nat} (hw : 1 ≤ w) (hw' : w < 4294967296) (ch : Channel) :
    (ch.clampWidth w).filterW.toNat = min (max ch.filterW.toNat 1) w := by
  simp only [Channel.clampWidth, clamp, u32]
  rw [toNat_toWord (by omega) (by omega)]
  omega

@[simp] theorem Channel.setPeriod_period (rate : Word) (ch : Channel) :
    (ch.setPeriod rate).period = periodFn (ch.note + ch.vibLevel) ch.length rate := by
  simp only [Channel.setPeriod, noteEff_eq_add]

/-- MAX_DELAY and MAX_WIDTH are below 2^24 (00_scope.md R7). -/
theorem State.maxDelay_lt {s : State} (h : s.histLog2 ≤ 24) : s.maxDelay < 16777216 :=
  lt_of_le_of_lt (Nat.div_le_div_right (State.histLen_le h)) (by decide)

/-- A history of at least two entries has room for a width of 1. -/
theorem State.one_le_maxWidth {s : State} (h : 1 ≤ s.histLog2) : 1 ≤ s.maxWidth :=
  (Nat.one_le_div_iff (by decide)).mpr (Nat.pow_le_pow_right (n := 2) (by decide) h)

/-! ### The delay request (30_encoding.md R94) -/

theorem dreqCount_eq (q : Word) : dreqCount q = q.toNat % 2 ^ 30 := by
  simp [dreqCount, BitVec.extractLsb'_toNat]

theorem dreqTag_eq_iff (q : Word) (t : BitVec 2) : dreqTag q = t ↔ q.toNat / 2 ^ 30 = t.toNat := by
  have hq := q.isLt
  rw [← BitVec.toNat_inj, dreqTag, BitVec.extractLsb'_toNat, Nat.shiftRight_eq_div_pow, Nat.mod_eq_of_lt (by omega)]

theorem bitVec2_cases : ∀ t : BitVec 2, t = 0 ∨ t = 1 ∨ t = 2 ∨ t = 3 := by decide

/-- Each variant is selected by its own tag. -/
theorem selectDreq_iff_tag (q : Word) (c : Nat) :
    (selectDreq q c = .dreqNone c ↔ dreqTag q = 0) ∧ (selectDreq q c = .dreqTicks c ↔ dreqTag q = 1) ∧
    (selectDreq q c = .dreqNote c ↔ dreqTag q = 2) ∧ (selectDreq q c = .dreqRsvd c ↔ dreqTag q = 3) := by
  unfold selectDreq
  obtain h | h | h | h := bitVec2_cases (dreqTag q) <;> simp [h]

/-! ### One channel's tick, instruction by instruction (41_tick_scheduler.md R110) -/

/-- The selected envelope variant, with the increment of ENV_POS to follow, is ENV. -/
theorem exec_selectEnv {s : State} {c : Nat} {ch : Channel} (h : s.chan? c = some ch) :
    ∃ v : Channel, exec (selectEnv ch c) s = .next (s.setChan c v) ∧ v.envAdvance = ch.env := by
  unfold selectEnv Channel.env
  split_ifs <;> exact ⟨_, onChan_next _ h, rfl⟩

/-- The selected delay request is DREQ. -/
theorem exec_selectDreq {s : State} {c : Nat} {ch : Channel} (h : s.chan? c = some ch) :
    exec (selectDreq ch.delayReq c) s = .next (s.setChan c (ch.dreq s.maxDelay s.tickRate s.tickInterval)) := by
  unfold selectDreq Channel.dreq
  split_ifs <;> exact onChan_next _ h

/-- An operation on channel `c`, in a state that has it and where it holds `ch`. -/
theorem onChan_setChan {s : State} {c : Nat} (hc : c < 2 * s.numPairs) (f : Channel → Channel) (ch : Channel) :
    onChan c f (s.setChan c ch) = .next (s.setChan c (f ch)) := by
  rw [onChan_next f (State.chan?_setChan_same hc), State.setChan_setChan]

theorem chosenBy_setChan {s : State} {c : Nat} (hc : c < 2 * s.numPairs)
    (f : Channel → State → Host.Outcome State Fault Refusal) (ch : Channel) :
    chosenBy c f (s.setChan c ch) = f ch (s.setChan c ch) := by
  simp only [chosenBy, State.chan?_setChan_same hc]

/-- Each of the loop's operations on channel `c` acts on what the one before it left there, and together they are the channel's tick. -/
theorem tickChannel_next {s : State} {c : Nat} {ch : Channel} (h : s.chan? c = some ch) :
    tickChannel c s = .next (s.setChan c (ch.tick Config.waveFn s)) := by
  have hc := State.lt_of_chan? h
  have slide : exec (.chTickSlide c) s = .next (s.setChan c ch.slideNote) := onChan_next _ h
  have fade (x : Channel) : exec (.chTickFade c) (s.setChan c x) = .next (s.setChan c x.fadeVol) := onChan_setChan hc _ x
  have trem (x : Channel) : exec (.lfoTrem c) (s.setChan c x) = .next (s.setChan c (x.lfoTrem Config.waveFn)) :=
    onChan_setChan hc _ x
  have vib (x : Channel) : exec (.lfoVib c) (s.setChan c x) = .next (s.setChan c (x.lfoVib Config.waveFn)) :=
    onChan_setChan hc _ x
  have width (x : Channel) : exec (.chTickWidth c) (s.setChan c x) = .next (s.setChan c (x.clampWidth s.maxWidth)) :=
    onChan_setChan hc _ x
  have period (x : Channel) : exec (.chTickPeriod c) (s.setChan c x) = .next (s.setChan c (x.setPeriod s.sampleRate)) :=
    onChan_setChan hc _ x
  have request (x : Channel) : exec (selectDreq x.delayReq c) (s.setChan c x) =
      .next (s.setChan c (x.dreq s.maxDelay s.tickRate s.tickInterval)) := by
    rw [exec_selectDreq (State.chan?_setChan_same hc), State.setChan_setChan]
    rfl
  obtain ⟨v, variant, hv⟩ := exec_selectEnv (State.chan?_setChan_same (ch := ch.slideNote.fadeVol) hc)
  have advance : ({ v with envPos := v.envPos + 1 } : Channel) = ch.slideNote.fadeVol.env := by
    rw [← hv, Channel.envAdvance, toWord_u32_add_one]
  simp only [tickChannel, List.foldl, andThen, slide, fade, chosenBy_setChan hc, variant, State.setChan_setChan, advance, trem,
    vib, request, width, period]
  rfl

/-! ### The loop over the channels (41_tick_scheduler.md R112) -/

/-- `t` is `s` with the tick taken in the channels below `k`, and nothing else changed. -/
structure State.TickedBelow (s : State) (k : Nat) (t : State) : Prop where
  frame : t = { s with pairs := t.pairs }
  chan : ∀ c, t.chan? c = if c < k then (s.chan? c).map (Channel.tick Config.waveFn s) else s.chan? c

theorem State.TickedBelow.zero (s : State) : s.TickedBelow 0 s := ⟨rfl, fun _ => by simp⟩

/-- A state that differs from `s` in its pairs alone still does after a channel is replaced. -/
theorem State.setChan_frame {s t : State} (h : t = { s with pairs := t.pairs }) (c : Nat) (ch : Channel) :
    t.setChan c ch = { s with pairs := (t.setChan c ch).pairs } := by
  rw [h]
  rfl

/-- A channel's tick reads the globals alone. -/
theorem Channel.tick_congr (wave : WaveFn) {s t : State} (h : t = { s with pairs := t.pairs }) (ch : Channel) :
    ch.tick wave t = ch.tick wave s := by
  rw [h]
  rfl

theorem State.TickedBelow.succ {s t : State} {k : Nat} (h : s.TickedBelow k t) (hk : k < 2 * s.numPairs) :
    ∃ u, tickChannel k t = .next u ∧ s.TickedBelow (k + 1) u := by
  obtain ⟨ch, hch⟩ := Option.isSome_iff_exists.mp ((s.chan?_isSome k).mpr hk)
  have htk : t.chan? k = some ch := by simpa [hch] using h.chan k
  refine ⟨_, tickChannel_next htk, State.setChan_frame h.frame k _, fun c => ?_⟩
  by_cases hc : c = k
  · rw [hc, State.chan?_setChan_same (State.lt_of_chan? htk), if_pos (by omega), hch, Channel.tick_congr _ h.frame]
    rfl
  · rw [State.chan?_setChan_other hc, h.chan c]
    simp only [show c < k + 1 ↔ c < k by omega]

theorem tickLoop_upTo {s : State} {k : Nat} (hk : k ≤ 2 * s.numPairs) :
    ∃ t, (List.range k).foldl (fun o c => andThen o (tickChannel c)) (.next s) = .next t ∧ s.TickedBelow k t := by
  induction k with
  | zero => exact ⟨s, rfl, .zero s⟩
  | succ k ih =>
    obtain ⟨t, ht, hbelow⟩ := ih (by omega)
    obtain ⟨u, hu, hbelow'⟩ := hbelow.succ (by omega)
    exact ⟨u, by rw [List.range_succ, List.foldl_append, ht]; exact hu, hbelow'⟩

theorem State.chan?_tick (wave : WaveFn) (s : State) (c : Nat) :
    (s.tick wave).chan? c = (s.chan? c).map (Channel.tick wave s) :=
  State.chan?_map (s := s) (t := s.tick wave) rfl c

/-- The loop leaves the channels as TICK's map over the pairs leaves them. -/
theorem tickLoop_eq (s : State) :
    tickLoop s = .next { s with pairs := s.pairs.map (Pair.map (Channel.tick Config.waveFn s)) } := by
  obtain ⟨t, ht, hframe, hchan⟩ := tickLoop_upTo (s := s) le_rfl
  rw [tickLoop, ht]
  congr 1
  refine State.eq_of_chan? hframe fun c => ?_
  refine (hchan c).trans (Eq.trans ?_ (State.chan?_tick Config.waveFn s c).symm)
  split
  case isTrue => rfl
  case isFalse hc => rw [State.chan?_absent (by omega)]; rfl

/-! ### What a tick leaves in one channel (41_tick_scheduler.md R110) -/

section
variable (wave : WaveFn) (g : State) (ch : Channel)

theorem Channel.tick_note : (ch.tick wave g).note = ch.note + ch.slide := by simp [Channel.tick]

theorem Channel.tick_postVol : (ch.tick wave g).postVol = ch.fadeVol.postVol := by simp [Channel.tick, Channel.fadeVol]

theorem Channel.tick_envPos : (ch.tick wave g).envPos = ch.envPos + 1 := by simp [Channel.tick]

theorem Channel.tick_delayReq : (ch.tick wave g).delayReq = 0 := by simp [Channel.tick]

theorem Channel.toInt_tick_preVol : (ch.tick wave g).preVol.toInt = ch.env.preVol.toInt := by
  simp [Channel.tick, Channel.toInt_env_preVol]

theorem Channel.tick_filterW : (ch.tick wave g).filterW = (ch.clampWidth g.maxWidth).filterW := by
  simp [Channel.tick, Channel.clampWidth]

theorem Channel.tick_period :
    (ch.tick wave g).period =
      periodFn ((ch.tick wave g).note + (ch.tick wave g).vibLevel) (ch.tick wave g).length g.sampleRate := by
  simp [Channel.tick]

end

end Sys2Proof.Machine

namespace Sys2Proof
open Machine Statements

/-- Settles O41: the loop's channels are those of the map, since a channel's steps read no other channel. -/
theorem tickIsTheChannelLoop : Obligations.TickIsTheChannelLoop := by
  unfold Obligations.TickIsTheChannelLoop
  intro s
  rw [tickLoop_eq, andThen, ← toCount_toNat_add, ← toWord_u32_add_one]
  rfl

/-- Settles O35: the tags are arithmetic on DELAY_REQ, and the products are not negative. -/
theorem delayRequestsResolveToSamples : Obligations.DelayRequestsResolveToSamples := by
  unfold Obligations.DelayRequestsResolveToSamples
  intro s c ch hlog hc
  have hd : s.maxDelay < 4294967296 := (State.maxDelay_lt hlog).trans (by decide)
  have hv : 0 ≤ s.tickInterval := zero_le_one.trans (tickInterval_pos _ _ _)
  have hrate := (u32_range s.tickRate).1
  obtain ⟨-, hticks, hnote, -⟩ := selectDreq_iff_tag ch.delayReq c
  rw [← dreqCount_eq, hticks, hnote, dreqTag_eq_iff, dreqTag_eq_iff]
  exact ⟨⟨_, Channel.toNat_resolveDelay_delay hd (by positivity) ch, onChan_next _ hc⟩,
    ⟨_, Channel.toNat_resolveDelay_delay hd (by positivity) ch, onChan_next _ hc⟩, Iff.rfl, Iff.rfl⟩

/-- Settles O40: the operands are not negative, so the truncating divisions are those of the natural numbers. -/
theorem tickIntervalFormula : Obligations.TickIntervalFormula := by
  unfold Obligations.TickIntervalFormula
  intro s
  simp only [State.tickInterval, Machine.tickInterval, u32, ← BitVec.toNat_inj, BitVec.ofNat_eq_ofNat, BitVec.toNat_zero]
  split
  · rfl
  · have hproduct : 60 * (s.sampleRate.toNat : Int) = ((60 * s.sampleRate.toNat : Nat) : Int) := rfl
    rw [hproduct, tdiv_natCast, tdiv_natCast, Nat.cast_max, Nat.cast_one]

/-- Settles O42: each register is written by one step, which reads only registers that the steps before it leave. -/
theorem tickResultsInEachChannel : Obligations.TickResultsInEachChannel := by
  unfold Obligations.TickResultsInEachChannel
  intro s hlo hhi
  have hw : s.maxWidth < 4294967296 := (State.maxDelay_lt hhi).trans (by decide)
  refine ⟨s.tick Config.waveFn, rfl, fun c ch hc => ?_⟩
  refine ⟨ch.tick Config.waveFn s, by rw [State.chan?_tick, hc]; rfl, ch.tick_note _ s, ?_, ?_, ch.tick_envPos _ s,
    ch.tick_delayReq _ s, ?_, ch.tick_period _ s, by simp, by simp [sameSampleRate]⟩
  · rw [Channel.tick_postVol, Channel.toInt_fadeVol_postVol]
  · rw [Channel.toInt_tick_preVol, Channel.toInt_env_preVol]
  · rw [Channel.tick_filterW]
    exact Channel.toNat_clampWidth_filterW (State.one_le_maxWidth (by omega)) hw ch

/-- Settles O27: the sum of the two's complement values wraps as the 32-bit sum does. -/
theorem slideAddsToTheNote : Obligations.SlideAddsToTheNote := by
  unfold Obligations.SlideAddsToTheNote
  intro s c ch hc
  rw [← toWord_toInt_add_toInt]
  exact onChan_next Channel.slideNote hc

/-- Settles O28: the clamped sum fits a signed register. -/
theorem fadeKeepsPostVolAboveZero : Obligations.FadeKeepsPostVolAboveZero := by
  unfold Obligations.FadeKeepsPostVolAboveZero
  intro s c ch hc
  exact ⟨_, ch.toInt_fadeVol_postVol, onChan_next Channel.fadeVol hc⟩

/-- Settles O34: tags 0 and 3, as arithmetic on DELAY_REQ, select the two that only clear the slot. -/
theorem noneAndReservedRequestsAreDiscarded : Obligations.NoneAndReservedRequestsAreDiscarded := by
  unfold Obligations.NoneAndReservedRequestsAreDiscarded
  intro s c ch hc
  obtain ⟨hnone, -, -, hrsvd⟩ := selectDreq_iff_tag ch.delayReq c
  rw [hnone, hrsvd, dreqTag_eq_iff, dreqTag_eq_iff]
  exact ⟨onChan_next Channel.dreqNone hc, onChan_next Channel.dreqRsvd hc, Iff.rfl, Iff.rfl⟩

/-- Settles O36: with HIST_LOG2 in 2 to 24, MAX_WIDTH is at least 1 and fits the register. -/
theorem widthIsClamped : Obligations.WidthIsClamped := by
  unfold Obligations.WidthIsClamped
  intro s c ch hc hlo hhi
  exact ⟨_, Channel.toNat_clampWidth_filterW (State.one_le_maxWidth (by omega)) ((State.maxDelay_lt hhi).trans (by decide)) ch,
    onChan_next _ hc⟩

/-- Settles O37: the effective note is the 32-bit sum. -/
theorem periodIsRecomputed : Obligations.PeriodIsRecomputed := by
  unfold Obligations.PeriodIsRecomputed
  intro s c ch hc
  rw [← noteEff_eq_add]
  exact onChan_next (Channel.setPeriod s.sampleRate) hc

end Sys2Proof
end

section
namespace Sys2Proof.Machine

/-! ### The selection of the envelope variant (30_encoding.md R92, 42_envelope_lfo.md R120) -/

/-- Each variant is selected by its own condition, with the conditions before it in R120's order false. -/
theorem selectEnv_iff (ch : Channel) (c : Nat) :
    (selectEnv ch c = .envIdle c ↔ ch.release.toInt < 1) ∧
    (selectEnv ch c = .envRelease c ↔ 1 ≤ ch.release.toInt ∧ ch.noteOn = false) ∧
    (selectEnv ch c = .envAttack c ↔ 1 ≤ ch.release.toInt ∧ ch.noteOn = true ∧ ch.attackDue) ∧
    (selectEnv ch c = .envDecay c ↔ 1 ≤ ch.release.toInt ∧ ch.noteOn = true ∧ ¬ch.attackDue ∧
      ch.sustain.toInt < ch.preVol.toInt) ∧
    (selectEnv ch c = .envSustain c ↔ 1 ≤ ch.release.toInt ∧ ch.noteOn = true ∧ ¬ch.attackDue ∧
      ch.preVol.toInt ≤ ch.sustain.toInt) := by
  unfold selectEnv
  rw [← not_lt (a := ch.release.toInt), ← not_lt (a := ch.sustain.toInt), ← Bool.not_eq_false ch.noteOn]
  split_ifs <;> simp [*]

/-- A channel replaced by what it holds. -/
theorem State.setChan_self {s : State} {c : Nat} {ch : Channel} (h : s.chan? c = some ch) : s.setChan c ch = s := by
  refine State.eq_of_chan? rfl fun c' => ?_
  by_cases hc : c' = c
  · rw [hc, h, State.chan?_setChan_same (State.lt_of_chan? h)]
  · exact State.chan?_setChan_other hc

/-- 90_conflicts.md C11: no variant takes PRE_VOL out of [0, 0x10000]. RELEASE and ATTACK are positive wherever R120 selects their
variants, so DECAY alone has to be assumed not negative. -/
theorem Channel.env_preVol_range {ch : Channel} (hlo : 0 ≤ ch.preVol.toInt) (hhi : ch.preVol.toInt ≤ 0x10000)
    (hdecay : 0 ≤ ch.decay.toInt) : 0 ≤ ch.env.preVol.toInt ∧ ch.env.preVol.toInt ≤ 0x10000 := by
  rw [Channel.toInt_env_preVol]
  split_ifs <;> omega

/-! ### The LFOs (42_envelope_lfo.md R128, R129) -/

/-- The phase modulo 0x10000 is the 16-bit sum. -/
theorem lfoAdvance_eq_add (phase : BitVec 16) (rate : Word) : lfoAdvance phase rate = phase + rate.truncate 16 := by
  rw [← BitVec.toNat_inj]
  simp [lfoAdvance]

/-- `asr` by 15 rounds toward minus infinity, as the floor division does. -/
theorem toInt_lfoLevel (w : Sample) (depth : Word) :
    (lfoLevel w depth).toInt = sat32 (w.toInt * depth.toInt / 2 ^ 15) :=
  toInt_toWord (sat32_range _).1 (sat32_range _).2

end Sys2Proof.Machine

namespace Sys2Proof
open Machine

/-- Settles O33: the phase is advanced as a 16-bit sum, and the saturated level fits its register. -/
theorem lfosAdvanceAndSample : Obligations.LfosAdvanceAndSample := by
  unfold Obligations.LfosAdvanceAndSample
  intro s c ch hc
  rw [← lfoAdvance_eq_add, ← lfoAdvance_eq_add]
  exact ⟨⟨_, toInt_lfoLevel _ _, onChan_next (Channel.lfoTrem Config.waveFn) hc⟩,
    ⟨_, toInt_lfoLevel _ _, onChan_next (Channel.lfoVib Config.waveFn) hc⟩⟩

/-- Settles O43: of the steps of a tick ENV alone writes PRE_VOL, and each of its variants keeps the range. -/
theorem envelopeStaysInFullScale : Obligations.EnvelopeStaysInFullScale := by
  unfold Obligations.EnvelopeStaysInFullScale
  intro s c ch hc hlo hhi _ hdecay _
  refine ⟨s.tick Config.waveFn, ch.tick Config.waveFn s, rfl, by rw [State.chan?_tick, hc]; rfl, ?_⟩
  rw [Channel.toInt_tick_preVol]
  exact Channel.env_preVol_range hlo hhi hdecay

/-- Settles O29: both variants put the channel back as it was. -/
theorem idleAndSustainChangeNothing : Obligations.IdleAndSustainChangeNothing := by
  unfold Obligations.IdleAndSustainChangeNothing
  refine ⟨fun s c hc => ?_, fun ch c => ?_⟩
  · obtain ⟨ch, hch⟩ := Option.isSome_iff_exists.mp ((s.chan?_isSome c).mpr hc)
    have unchanged : onChan c (fun x => x) s = .next s := by rw [onChan_next _ hch, State.setChan_self hch]
    exact ⟨unchanged, unchanged⟩
  · obtain ⟨hidle, -, -, -, hsustain⟩ := selectEnv_iff ch c
    rw [← Channel.attackDue_iff]
    exact ⟨hidle, hsustain⟩

/-- Settles O30: under the variant's condition the difference fits the register, so no free value is taken. -/
theorem releaseLowersPreVolToZero : Obligations.ReleaseLowersPreVolToZero := by
  unfold Obligations.ReleaseLowersPreVolToZero
  intro s c ch hc hrelease
  obtain ⟨-, hselect, -, -, -⟩ := selectEnv_iff ch c
  exact ⟨hselect.trans (and_iff_right hrelease), _, Channel.envRelease_preVol hrelease, onChan_next Channel.envRelease hc⟩

/-- Settles O31: under the variant's condition the sum fits the register, so no free value is taken. -/
theorem attackRaisesPreVolToFullScale : Obligations.AttackRaisesPreVolToFullScale := by
  unfold Obligations.AttackRaisesPreVolToFullScale
  intro s c ch hc hattack
  obtain ⟨-, -, hselect, -, -⟩ := selectEnv_iff ch c
  rw [Channel.attackDue_iff, and_iff_right hattack] at hselect
  exact ⟨hselect, _, Channel.envAttack_preVol hattack, onChan_next Channel.envAttack hc⟩

/-- Settles O32: the clamped difference fits the register for every DECAY. -/
theorem decayLowersPreVolToZero : Obligations.DecayLowersPreVolToZero := by
  unfold Obligations.DecayLowersPreVolToZero
  intro s c ch hc
  obtain ⟨-, -, -, hselect, -⟩ := selectEnv_iff ch c
  rw [Channel.attackDue_iff] at hselect
  exact ⟨hselect, _, ch.toInt_envDecay_preVol, onChan_next Channel.envDecay hc⟩

end Sys2Proof
end

section
namespace Sys2Proof.Machine

/-! ### DF_STEP in the integers of the specification (43_delay_filter.md R130, R131) -/

/-- HIST_LEN as an integer (00_scope.md R7). -/
theorem State.natCast_histLen (s : State) : (s.histLen : Int) = 2 ^ s.histLog2 := Nat.cast_pow 2 s.histLog2

theorem Channel.effWidth_eq_min_max (n : Nat) (ch : Channel) :
    ch.effWidth n = min (max (ch.filterW.toNat : Int) 1) ((n : Int) / 2) := rfl

theorem Channel.effDelay_eq_min (n : Nat) (ch : Channel) : ch.effDelay n = min (ch.delay.toNat : Int) ((n : Int) / 2) := rfl

theorem Channel.toInt_dfAvg (n : Nat) (x : Sample) (ch : Channel) :
    (ch.dfAvg n x).toInt = sat16 (ch.avg.toInt + Int.tdiv (ch.dfEntering n x).toInt (ch.effWidth n)
      - Int.tdiv (ch.dfLeaving n).toInt (ch.effWidth n)) :=
  toInt_toSample_sat16 _

theorem toInt_dfOutput (x avg : Sample) (dry wet : Word) :
    (dfOutput x avg dry wet).toInt = sat16 (x.toInt * dry.toInt / 2 ^ 16 + avg.toInt * wet.toInt / 2 ^ 16) :=
  toInt_toSample_sat16 _

/-! ### The degenerate window (43_delay_filter.md R133) -/

/-- A sample is in the range that `sat16` saturates to. -/
theorem sat16_toInt (x : Sample) : sat16 x.toInt = x.toInt := by
  have hlo := x.le_toInt
  have hhi := x.toInt_lt
  unfold sat16
  omega

theorem Channel.effWidth_one {n : Nat} (hn : 2 ≤ n) {ch : Channel} (h : ch.filterW = 1) : ch.effWidth n = 1 := by
  have hw : ch.filterW.toNat = 1 := by rw [h]; rfl
  rw [Channel.effWidth_eq_min_max, hw]
  omega

theorem Channel.effDelay_zero (n : Nat) {ch : Channel} (h : ch.delay = 0) : ch.effDelay n = 0 := by
  have hd : ch.delay.toNat = 0 := by rw [h]; rfl
  rw [Channel.effDelay_eq_min, hd]
  omega

/-- Without feedback DF_STEP stores the voice sample. -/
theorem Channel.dfStore_of_feedback_zero (x : Sample) {ch : Channel} (h : ch.feedback = 0) : ch.dfStore x = x := by
  rw [← BitVec.toInt_inj, Channel.toInt_dfStore, h]
  simpa using sat16_toInt x

/-- The entry at the cursor after DF_STEP is the one it stored. -/
theorem Channel.read_dfStep_hist_cursor (n : Nat) (x : Sample) {ch : Channel} (hwf : ch.hist.wf = true) :
    (ch.dfStep n x).1.hist.read (ch.cursor.toNat % n) = ch.dfStore x := by
  rw [Channel.dfStep_hist]
  exact Memory.read_write_same hwf _ _

/-- R131: at delay 0 the entering entry is the one just stored, for the read is after the write. -/
theorem Channel.dfEntering_of_delay_zero (n : Nat) (x : Sample) {ch : Channel} (hwf : ch.hist.wf = true)
    (h : ch.delay = 0) : ch.dfEntering n x = ch.dfStore x := by
  rw [Channel.dfEntering, Channel.effDelay_zero n h, sub_zero, histIndex_u32]
  exact Channel.read_dfStep_hist_cursor n x hwf

/-- At width 1 and delay 0 the leaving entry is the one before the cursor. -/
theorem Channel.dfLeaving_of_degenerate {n : Nat} (hn : 2 ≤ n) {ch : Channel} (hw : ch.filterW = 1) (hd : ch.delay = 0) :
    ch.dfLeaving n = ch.hist.read (((ch.cursor.toNat : Int) - 1) % (n : Int)).toNat := by
  rw [Channel.dfLeaving, Channel.effWidth_one hn hw, Channel.effDelay_zero n hd, sub_zero]
  rfl

/-- R133: at width 1 an average equal to the leaving entry becomes the entering entry. -/
theorem Channel.dfAvg_of_width_one {n : Nat} (hn : 2 ≤ n) (x : Sample) {ch : Channel} (hw : ch.filterW = 1)
    (havg : ch.avg = ch.dfLeaving n) : ch.dfAvg n x = ch.dfEntering n x := by
  rw [← BitVec.toInt_inj, Channel.toInt_dfAvg, Channel.effWidth_one hn hw, Int.tdiv_one, Int.tdiv_one, ← havg,
    add_sub_cancel_left, sat16_toInt]

end Sys2Proof.Machine

namespace Sys2Proof
open Machine

/-- Settles O46: with HIST_LEN as an integer, each named value of R131 is the model's own, and the two saturated ones read back as
the integers they were made from. -/
theorem delayFilterStep : Obligations.DelayFilterStep := by
  unfold Obligations.DelayFilterStep
  intro s c ch x hc
  rw [← s.natCast_histLen]
  exact ⟨ch.dfAvg s.histLen x, dfOutput x (ch.dfAvg s.histLen x) ch.dry ch.wet, _, ch.toInt_dfAvg s.histLen x,
    toInt_dfOutput x _ ch.dry ch.wet, rfl, exec_dfStep_next hc x⟩

/-- Settles O48: the entry before the cursor leaves the average and the sample, just stored, enters it. -/
theorem degenerateWindowFollowsTheSample : Obligations.DegenerateWindowFollowsTheSample := by
  unfold Obligations.DegenerateWindowFollowsTheSample
  intro s c ch x hlog hc hwf hcursor hw hd hfeedback havg
  have hlen : 2 ≤ s.histLen := (Nat.pow_le_pow_right two_pos hlog).trans' (by decide)
  have hstore : ch.dfStore x = x := ch.dfStore_of_feedback_zero x hfeedback
  rw [← s.natCast_histLen, ← Channel.dfLeaving_of_degenerate hlen hw hd] at havg
  have hnew : ch.dfAvg s.histLen x = x :=
    calc ch.dfAvg s.histLen x
      _ = ch.dfEntering s.histLen x := Channel.dfAvg_of_width_one hlen x hw havg
      _ = ch.dfStore x := Channel.dfEntering_of_delay_zero s.histLen x hwf hd
      _ = x := hstore
  have hread : (ch.dfStep s.histLen x).1.hist.read ch.cursor.toNat = x := by
    have hmod : ch.cursor.toNat % s.histLen = ch.cursor.toNat := Nat.mod_eq_of_lt hcursor
    rw [← hmod, Channel.read_dfStep_hist_cursor s.histLen x hwf, hstore]
  refine ⟨_, (ch.dfStep s.histLen x).1, dfOutput x (ch.dfAvg s.histLen x) ch.dry ch.wet, exec_dfStep_next hc x,
    State.chan?_setChan_same (State.lt_of_chan? hc), rfl, hnew, hnew.trans hread.symm, ?_⟩
  rw [hnew]
  exact toInt_dfOutput x x ch.dry ch.wet

end Sys2Proof
end

section
namespace Sys2Proof.Machine

/-! ### NCO.ADVANCE and VOICE.SCALE (44_pair_worker.md R140, R141) -/

theorem Channel.ncoAdvance_writes_phase (ch : Channel) : ch.ncoAdvance = { ch with phase := ch.ncoAdvance.phase } := by
  rw [Channel.ncoAdvance_eq]

theorem Channel.ncoAdvance_phase_of_length_zero {ch : Channel} (h : ch.length = 0) : ch.ncoAdvance.phase = 0 := by
  have hlength : ch.length.toNat = 0 := congrArg BitVec.toNat h
  rw [Channel.ncoAdvance, if_pos hlength]

/-- The modulo is of the sum before it is cut to 32 bits, and a remainder below LENGTH fits the register. -/
theorem Channel.toNat_ncoAdvance_phase {ch : Channel} (h : 0 < ch.length.toNat) :
    ch.ncoAdvance.phase.toNat = (ch.phase.toNat + ch.period.toNat) % ch.length.toNat := by
  have hmod := Nat.mod_lt (ch.phase.toNat + ch.period.toNat) h
  rw [Channel.ncoAdvance, if_neg h.ne', BitVec.toNat_ofNat, Nat.mod_eq_of_lt (hmod.trans ch.length.isLt)]

theorem Channel.toInt_voiceScale (x : Sample) (ch : Channel) :
    (ch.voiceScale x).toInt = sat16 (x.toInt * (ch.preVol.toInt + ch.tremLevel.toInt) / 2 ^ 16) :=
  toInt_toSample_sat16 _

theorem exec_voiceScale_next {s : State} {c : Nat} {ch : Channel} (h : s.chan? c = some ch) (x : Sample) :
    exec (.voiceScale c x) s = .next (s.returning [ch.voiceScale x]) := by
  simp only [exec, execVoiceScale, h]

/-! ### The variants of the pair step (30_encoding.md R93, 44_pair_worker.md R143 to R146) -/

/-- Each value of MODE selects one variant, and no other value selects it. -/
theorem selectPair_iff (p : Nat) :
    (∀ m, selectPair m p = .pairStereo p ↔ m = 0) ∧ (∀ m, selectPair m p = .pairPm p ↔ m = 1) ∧
    (∀ m, selectPair m p = .pairAm p ↔ m = 2) ∧ (∀ m, selectPair m p = .pairSync p ↔ m = 3) := by
  refine ⟨fun m => ?_, fun m => ?_, fun m => ?_, fun m => ?_⟩ <;>
    obtain rfl | rfl | rfl | rfl := bitVec2_cases m <;> simp [selectPair, decodeMode]

/-- R144: a sample is at least -0x8000, so the offset makes it a phase from 0 on, and nothing wraps. -/
theorem toNat_pmPhase (y : Sample) : ((pmPhase y).toNat : Int) = y.toInt + 0x8000 := by
  have hlo := y.le_toInt
  have hhi := y.toInt_lt
  rw [pmPhase, toNat_toWord (by omega) (by omega)]
  omega

theorem pmPhase_le (y : Sample) : (pmPhase y).toNat ≤ 0xFFFF := by
  have hphase := toNat_pmPhase y
  have hhi := y.toInt_lt
  omega

/-- R146: in Sync the right phase is reset exactly when the left one wraps. -/
theorem syncRight_sync (l r : Channel) :
    syncRight .sync l.wraps r =
      if l.length.toNat ≤ l.phase.toNat + l.period.toNat then { r with phase := 0 } else r := by
  simp only [syncRight, l.wraps_iff, true_and]

end Sys2Proof.Machine

namespace Sys2Proof
open Machine

/-- Settles O50: the model's phase for the right lookup is the left output plus 0x8000 as an integer. -/
theorem phaseModulationPairStep : Obligations.PhaseModulationPairStep := by
  unfold Obligations.PhaseModulationPairStep
  intro s p pr hp l r dl
  obtain ⟨-, hselect, -, -⟩ := selectPair_iff p
  exact ⟨pmPhase dl.2, toNat_pmPhase dl.2, pmPhase_le dl.2,
    onPair_next (Pair.stepAs Config.waveFn s.histLen .pm) hp, hselect⟩

/-- Settles O52: the reset of the right phase comes before its lookup, and DF_STEP keeps the phase. -/
theorem syncPairStep : Obligations.SyncPairStep := by
  unfold Obligations.SyncPairStep
  intro s p pr hp
  obtain ⟨-, -, -, hselect⟩ := selectPair_iff p
  rw [← syncRight_sync]
  refine ⟨onPair_next (Pair.stepAs Config.waveFn s.histLen .sync) hp, fun hwrap => ?_, hselect⟩
  rw [syncRight_sync, if_pos hwrap]
  rfl

/-- Settles O54: phase B steps each pair by a function of the pair and HIST_LEN. -/
theorem pairsAreIndependent : Obligations.PairsAreIndependent := by
  unfold Obligations.PairsAreIndependent
  intro s u p hlog hpair
  have hlen : s.histLen = u.histLen := congrArg (2 ^ ·) hlog
  refine ⟨_, _, rfl, rfl, ?_⟩
  rw [State.phaseB_pairs, State.phaseB_pairs, List.getElem?_map, List.getElem?_map, hlen, hpair]

/-- Settles O44: NCO.ADVANCE writes PHASE alone, with the remainder of the unbounded sum. -/
theorem phaseAdvancesModuloLength : Obligations.PhaseAdvancesModuloLength := by
  unfold Obligations.PhaseAdvancesModuloLength
  intro s c ch hc
  refine ⟨ch.ncoAdvance.phase, ?_, Channel.ncoAdvance_phase_of_length_zero, fun hlength => ?_⟩
  · rw [← Channel.ncoAdvance_writes_phase]
    exact onChan_next Channel.ncoAdvance hc
  · have hpos : 0 < ch.length.toNat := Nat.pos_of_ne_zero (BitVec.toNat_ne.mp hlength)
    have hphase := Channel.toNat_ncoAdvance_phase hpos
    exact ⟨hphase, hphase ▸ Nat.mod_lt _ hpos⟩

/-- Settles O45: the saturated value fits a sample. -/
theorem voiceIsScaledAndSaturated : Obligations.VoiceIsScaledAndSaturated := by
  unfold Obligations.VoiceIsScaledAndSaturated
  intro s c ch x hc
  exact ⟨ch.voiceScale x, ch.toInt_voiceScale x, exec_voiceScale_next hc x⟩

/-- Settles O49: outside Sync and PhaseModulation the pair step leaves the right phase and its lookup alone. -/
theorem stereoPairStep : Obligations.StereoPairStep := by
  unfold Obligations.StereoPairStep
  intro s p pr hp
  obtain ⟨hselect, -, -, -⟩ := selectPair_iff p
  exact ⟨onPair_next (Pair.stepAs Config.waveFn s.histLen .stereo) hp, hselect⟩

/-- Settles O51: both channels step as in Stereo, and the product saturates to a sample. -/
theorem amplitudeModulationPairStep : Obligations.AmplitudeModulationPairStep := by
  unfold Obligations.AmplitudeModulationPairStep
  intro s p pr hp
  obtain ⟨-, -, hselect, -⟩ := selectPair_iff p
  exact ⟨_, toInt_toSample_sat16 _, onPair_next (Pair.stepAs Config.waveFn s.histLen .am) hp, hselect⟩

end Sys2Proof
end

section
namespace Sys2Proof.Machine

open Sys2Proof.Statements

/-! ### The core's turn (45_mixer_control.md R150) -/

/-- A turn of the core is taken when it heads the agenda, or when no event is listed (20_memory.md R71). -/
theorem fetch_core {s : State} {rest : List Event} (h : s.agenda = .coreTurn :: rest ∨ (s.agenda = [] ∧ rest = [])) :
    fetch s = coreTurn { s with agenda := rest } := by
  cases s
  obtain rfl | ⟨rfl, rfl⟩ := h <;> rfl

theorem coreTurn_enabled {s : State} {i : Instr} (h : s.enabledOp = some i) : coreTurn s = .run i s := by
  simp only [coreTurn, h]

theorem coreTurn_stalled {s : State} (h : s.enabledOp = none) : coreTurn s = .hold s := by
  simp only [coreTurn, h]

theorem State.enabledOp_outputStepA {s : State} (hseq : s.seqPending = false) (hmid : s.midStep = false)
    (hrun : s.run = true) : s.enabledOp = some .outputStepA := by
  simp [State.enabledOp, hseq, hmid, hrun]

theorem State.enabledOp_outputStepB {s : State} (hseq : s.seqPending = false) (hmid : s.midStep = true) :
    s.enabledOp = some .outputStepB := by
  simp [State.enabledOp, hseq, hmid]

theorem State.enabledOp_of_seqPending {s : State} (hseq : s.seqPending = true) : s.enabledOp = none := if_pos hseq

theorem State.enabledOp_of_stopped {s : State} (hmid : s.midStep = false) (hrun : s.run = false) : s.enabledOp = none := by
  simp [State.enabledOp, hmid, hrun]

/-! ### MIX (45_mixer_control.md R154) -/

theorem mixSum_eq_sum (terms : List (Sample × Word)) :
    mixSum terms = (terms.map (fun t => t.1.toInt * t.2.toInt / 2 ^ 16)).sum := by
  induction terms with
  | nil => rfl
  | cons t rest ih => rw [List.map_cons, List.sum_cons, ← ih]; rfl

/-- One slot's sum, over the outputs and the pairs that they come from. -/
theorem mixSum_zip (slot : Sample × Sample → Sample) (vol : Pair → Word) (outs : List (Sample × Sample))
    (pairs : List Pair) :
    mixSum ((outs.map slot).zip (pairs.map vol)) =
      (List.zipWith (fun o pr => (slot o).toInt * (vol pr).toInt / 2 ^ 16) outs pairs).sum := by
  rw [mixSum_eq_sum, List.zip_map, List.map_map, List.zip, List.map_zipWith]
  rfl

theorem toInt_mixLeft (pairs : List Pair) (outs : List (Sample × Sample)) :
    (mixLeft pairs outs).toInt =
      sat16 (List.zipWith (fun o pr => o.1.toInt * pr.left.postVol.toInt / 2 ^ 16) outs pairs).sum := by
  rw [mixLeft, toInt_toSample_sat16, mixSum_zip]

theorem toInt_mixRight (pairs : List Pair) (outs : List (Sample × Sample)) :
    (mixRight pairs outs).toInt =
      sat16 (List.zipWith (fun o pr => o.2.toInt * pr.right.postVol.toInt / 2 ^ 16) outs pairs).sum := by
  rw [mixRight, toInt_toSample_sat16, mixSum_zip]

theorem exec_mix_next {s : State} {outs : List (Sample × Sample)} (h : outs.length = s.numPairs) :
    exec (.mix outs) s = .next (s.mix outs) := if_pos h

/-! ### The loop over the pairs (45_mixer_control.md R153) -/

/-- One pass of `pairLoop`: PAIR_STEP on pair `p`, with its outputs put after those collected before. -/
def pairPass (u : State × List (Sample × Sample)) (p : Nat) : Option (State × List (Sample × Sample)) :=
  match exec (.pairStep p) u.1 with
  | .next v =>
    match v.ret with
    | [l, r] => some (v, u.2 ++ [(l, r)])
    | _ => none
  | _ => none

/-- The first `k` passes of `pairLoop`. -/
def pairPasses (s : State) (k : Nat) : Option (State × List (Sample × Sample)) :=
  (List.range k).foldl (fun o p => o.bind fun u => pairPass u p) (some (s, []))

theorem pairLoop_eq_pairPasses (s : State) : pairLoop s = pairPasses s s.numPairs := rfl

theorem pairPasses_succ (s : State) (k : Nat) : pairPasses s (k + 1) = (pairPasses s k).bind fun u => pairPass u k := by
  rw [pairPasses, List.range_succ, List.foldl_append]
  rfl

/-- The pair step of phase B, on a pair of `s`. -/
def State.stepPair (s : State) (pr : Pair) : Pair × (Sample × Sample) := pr.step Config.waveFn s.histLen

theorem pairPass_of_pair {t : State} {p : Nat} {pr : Pair} (h : t.pairs[p]? = some pr) (outs : List (Sample × Sample)) :
    pairPass (t, outs) p =
      some ((t.setPair p (t.stepPair pr).1).returning [(t.stepPair pr).2.1, (t.stepPair pr).2.2],
        outs ++ [(t.stepPair pr).2]) := by
  have hstep : exec (.pairStep p) t =
      .next ((t.setPair p (t.stepPair pr).1).returning [(t.stepPair pr).2.1, (t.stepPair pr).2.2]) := onPair_next _ h
  simp only [pairPass, hstep, State.returning_ret]

/-- `t` is `s` with the pairs below `k` stepped; what PAIR_STEP returned last is left open. -/
structure State.SteppedBelow (s : State) (k : Nat) (t : State) : Prop where
  frame : t = { s with pairs := t.pairs, ret := t.ret }
  pair : ∀ p, t.pairs[p]? = if p < k then (s.pairs[p]?).map (fun pr => (s.stepPair pr).1) else s.pairs[p]?

theorem State.SteppedBelow.zero (s : State) : s.SteppedBelow 0 s := ⟨rfl, fun _ => by simp⟩

theorem State.SteppedBelow.histLen {s t : State} {k : Nat} (h : s.SteppedBelow k t) : t.histLen = s.histLen := by
  rw [h.frame]
  rfl

theorem State.SteppedBelow.stepPair {s t : State} {k : Nat} (h : s.SteppedBelow k t) (pr : Pair) :
    t.stepPair pr = s.stepPair pr := by
  rw [State.stepPair, h.histLen, State.stepPair]

theorem State.SteppedBelow.succ {s t : State} {k : Nat} {pr : Pair} (h : s.SteppedBelow k t) (hpr : s.pairs[k]? = some pr)
    (rs : List Sample) : s.SteppedBelow (k + 1) ((t.setPair k (s.stepPair pr).1).returning rs) where
  frame := by
    rw [h.frame]
    rfl
  pair p := by
    rw [State.returning_pairs, State.setPair_pairs, List.getElem?_modify, h.pair p]
    obtain hlt | rfl | hgt := Nat.lt_trichotomy p k
    · simp [hlt, hlt.ne', hlt.trans (Nat.lt_succ_self k)]
    · simp [hpr]
    · simp [hgt.ne, show ¬ p < k by omega, show ¬ p < k + 1 by omega]

/-- The pairs after a whole loop are those of phase B's map. -/
theorem State.SteppedBelow.pairs_eq {s t : State} (h : s.SteppedBelow s.numPairs t) :
    t.pairs = s.pairs.map (fun pr => (s.stepPair pr).1) := by
  refine List.ext_getElem? fun p => ?_
  rw [h.pair p, List.getElem?_map]
  split
  case isTrue => rfl
  case isFalse hp => rw [List.getElem?_eq_none (Nat.le_of_not_lt hp)]; rfl

/-- A pass steps its own pair, which the passes before it left as it was, and adds that pair's outputs. -/
theorem pairPasses_stepped {s : State} {k : Nat} (hk : k ≤ s.numPairs) :
    ∃ t, pairPasses s k = some (t, (s.pairs.take k).map (fun pr => (s.stepPair pr).2)) ∧ s.SteppedBelow k t := by
  induction k with
  | zero => exact ⟨s, rfl, .zero s⟩
  | succ k ih =>
    obtain ⟨t, ht, hbelow⟩ := ih (by omega)
    obtain ⟨pr, hpr⟩ : ∃ pr, s.pairs[k]? = some pr := ⟨_, List.getElem?_eq_getElem hk⟩
    have htk : t.pairs[k]? = some pr := by rw [hbelow.pair k, if_neg (lt_irrefl k), hpr]
    refine ⟨_, ?_, hbelow.succ hpr [(s.stepPair pr).2.1, (s.stepPair pr).2.2]⟩
    rw [pairPasses_succ, ht, Option.bind_some, pairPass_of_pair htk, hbelow.stepPair, List.take_add_one, hpr, List.map_append]
    rfl

/-- The loop leaves the pairs, and collects the outputs, as phase B's map over the pairs does. -/
theorem pairLoop_eq (s : State) :
    ∃ rs, pairLoop s = some ({ s with pairs := s.pairs.map (fun pr => (s.stepPair pr).1), ret := rs },
      s.pairs.map (fun pr => (s.stepPair pr).2)) := by
  obtain ⟨t, ht, hstepped⟩ := pairPasses_stepped (s := s) le_rfl
  refine ⟨t.ret, ?_⟩
  rw [pairLoop_eq_pairPasses, ht, State.numPairs, List.take_length, ← hstepped.pairs_eq, ← hstepped.frame]

/-- Phase B as MIX on the stepped pairs, COUNT one up and MID_STEP clear. -/
theorem State.phaseB_eq_mix (s : State) :
    s.phaseB Config.waveFn =
      { ({ s with pairs := s.pairs.map (fun pr => (s.stepPair pr).1) }).mix (s.pairs.map (fun pr => (s.stepPair pr).2)) with
        count := s.count + 1
        midStep := false } := by
  simp only [State.phaseB, List.map_map, State.mix_count, toCount_toNat_add_one]
  rfl

/-! ### Phase A (45_mixer_control.md R151) -/

theorem State.tickIfDue_of_due (wave : WaveFn) {s : State} (h : s.count = s.nextTick) : s.tickIfDue wave = s.tick wave :=
  if_pos h

theorem State.tickIfDue_of_not_due (wave : WaveFn) {s : State} (h : s.count ≠ s.nextTick) : s.tickIfDue wave = s :=
  if_neg h

theorem State.phaseA_of_callbackDue (wave : WaveFn) {s : State}
    (h : (s.tickIfDue wave).tickSpeed.toNat ≤ (s.tickIfDue wave).tickCounter.toNat) :
    s.phaseA wave = (s.tickIfDue wave).takeCallback :=
  if_pos ((State.callbackDue_iff _).mpr h)

theorem State.phaseA_of_not_callbackDue (wave : WaveFn) {s : State}
    (h : ¬ (s.tickIfDue wave).tickSpeed.toNat ≤ (s.tickIfDue wave).tickCounter.toNat) :
    s.phaseA wave = (s.tickIfDue wave).phaseB wave :=
  if_neg (mt (State.callbackDue_iff _).mp h)

end Sys2Proof.Machine

namespace Sys2Proof
open Machine Statements

/-- Settles O6: each row of R150 fixes the enabled operation; in the first row the premise excludes a pending callback. -/
theorem coreTurnRunsTheEnabledOperation : Obligations.CoreTurnRunsTheEnabledOperation := by
  unfold Obligations.CoreTurnRunsTheEnabledOperation
  intro s rest hagenda hstatus
  have hfetch := fetch_core hagenda
  refine ⟨fun hrun hmid => ?_, fun hmid hseq => ?_, fun hseq => ?_, fun hrun hmid => ?_⟩
  · have hseq : s.seqPending = false := Bool.eq_false_iff.mpr fun hpending => by simp [hstatus hpending] at hmid
    exact step_of_fetch_run (hfetch.trans (coreTurn_enabled (State.enabledOp_outputStepA hseq hmid hrun)))
  · exact step_of_fetch_run (hfetch.trans (coreTurn_enabled (State.enabledOp_outputStepB hseq hmid)))
  · exact step_of_fetch_hold (hfetch.trans (coreTurn_stalled (State.enabledOp_of_seqPending hseq)))
  · exact step_of_fetch_hold (hfetch.trans (coreTurn_stalled (State.enabledOp_of_stopped hmid hrun)))

/-- Settles O55: the two slots read back as the saturated sums. -/
theorem mixSumsAndSaturates : Obligations.MixSumsAndSaturates := by
  unfold Obligations.MixSumsAndSaturates
  refine ⟨fun s outs hlen => ?_, fun _ _ _ => rfl⟩
  exact ⟨mixLeft s.pairs outs, mixRight s.pairs outs, toInt_mixLeft s.pairs outs, toInt_mixRight s.pairs outs,
    exec_mix_next hlen⟩

/-- Settles O57: the loop over the pairs and phase B's map agree, since a pair's step reads no other pair. -/
theorem phaseBIsThePairLoopAndTheMix : Obligations.PhaseBIsThePairLoopAndTheMix := by
  unfold Obligations.PhaseBIsThePairLoopAndTheMix
  intro s
  obtain ⟨rs, hloop⟩ := pairLoop_eq s
  refine ⟨_, _, _, s.phaseB Config.waveFn, hloop, exec_mix_next (by simp [State.numPairs]), rfl, ?_⟩
  rw [State.phaseB_eq_mix]
  rfl

/-- Settles O59: the state after the tick, if one was due, is where the callback is tested and what the rest of
phase A runs on. -/
theorem phaseATicksThenCallsBack : Obligations.PhaseATicksThenCallsBack := by
  unfold Obligations.PhaseATicksThenCallsBack
  intro s
  refine ⟨s.tickIfDue Config.waveFn, s.phaseA Config.waveFn, ?_, rfl, ?_⟩
  · split
    case isTrue hdue => rw [State.tickIfDue_of_due _ hdue]; rfl
    case isFalse hdue => exact State.tickIfDue_of_not_due _ hdue
  · split
    case isTrue hdue => rw [State.phaseA_of_callbackDue _ hdue]; rfl
    case isFalse hdue => rw [State.phaseA_of_not_callbackDue _ hdue]; rfl

/-- Settles O56: SEQ_REQUEST is the callback's entry. -/
theorem seqRequestStallsTheCore : Obligations.SeqRequestStallsTheCore := by
  unfold Obligations.SeqRequestStallsTheCore
  exact fun _ => rfl

end Sys2Proof
end

section
namespace Sys2Proof

/-! ### The words of a WRITE at a register's address (30_encoding.md R81, R85) -/

theorem mkHdr_write_ofNat {a : Nat} (h : a < 65536) : 0x80000000 + BitVec.ofNat 32 a = mkHdr 2 0 (BitVec.ofNat 16 a) := by
  have hzext : BitVec.ofNat 32 a = (BitVec.ofNat 16 a).zeroExtend 32 := by
    apply BitVec.eq_of_toNat_eq
    simp only [BitVec.toNat_ofNat, BitVec.toNat_setWidth]
    omega
  rw [hzext, mkHdr_write]

/-- A WRITE to a global register is decoded alike on every core. -/
theorem decode_globWrite (n : Nat) (r : GlobReg) (d : Word) :
    decode n [0x80000000 + BitVec.ofNat 32 r.offset, d] = .ok (decodeWrite n (globAddr r) d, []) := by
  have ha : r.offset < 65536 := by cases r <;> decide
  rw [mkHdr_write_ofNat ha]
  exact decode_alignedWrite n (aligned_globAddr r) d []

theorem decode_chanWrite {n c : Nat} {r : ChReg} (hn : n ≤ 56) (hc : c < 2 * n) (hr : r.writable = true) (d : Word) :
    decode n [0x80000000 + BitVec.ofNat 32 (0x1000 + 0x100 * c + r.offset), d] = .ok (.writeReg (.chan c r) d, []) := by
  have hoff := r.offset_lt
  rw [mkHdr_write_ofNat (by omega)]
  have hwf : (Instr.writeReg (.chan c r) d).wf n = true := by simp [Instr.wf, RegTarget.ok, chanOk, hc, hr]
  exact decodeOfEncodeIsTheTransaction n _ [] hn rfl hwf

theorem decode_pairWrite {n p : Nat} {r : ChReg} (hn : n ≤ 56) (hp : p < n) (hr : r.writable = true) (d : Word) :
    decode n [0x80000000 + BitVec.ofNat 32 (0x8000 + 0x100 * p + r.offset), d] = .ok (.writePair p r d, []) := by
  have hoff := r.offset_lt
  rw [mkHdr_write_ofNat (by omega)]
  have hwf : (Instr.writePair p r d).wf n = true := by simp [Instr.wf, pairOk, hp, hr]
  exact decodeOfEncodeIsTheTransaction n _ [] hn rfl hwf

namespace Machine
open Sys2Proof.Statements

/-! ### Single bits as words (10_state.md R22 to R24) -/

theorem ofNat_toNat_bool (b : Bool) : BitVec.ofNat 32 b.toNat = if b then 1 else 0 := by cases b <;> rfl

/-- DATA[0], as a field of one bit. -/
theorem extractLsb'_bit0_beq (d : Word) : (d.extractLsb' 0 1 == 1) = d.getLsbD 0 := by
  rw [Bool.eq_iff_iff, beq_iff_eq, ← BitVec.toNat_inj, BitVec.extractLsb'_toNat, BitVec.getLsbD, Nat.testBit_zero]
  simp

/-- R22: within the ranges of the parameters neither field of CONFIG is cut. -/
theorem State.configWord_eq {s : State} (hn : s.numPairs ≤ 56) (hh : s.histLog2 ≤ 24) :
    s.configWord = BitVec.ofNat 32 (256 * s.histLog2 + s.numPairs) := by
  unfold State.configWord
  congr 1
  omega

theorem State.statusWord_eq (s : State) :
    s.statusWord =
      (if s.started then 1 else 0) ||| (if s.seqPending then 2 else 0) ||| (if s.midStep then 4 else 0) := by
  unfold State.statusWord
  cases s.started <;> cases s.seqPending <;> cases s.midStep <;> rfl

/-- R23, R164: writing 1 to RUN sets STARTED, writing 0 leaves it. -/
theorem State.writeRun_eq (b : Bool) (s : State) :
    s.writeRun b = { s with run := b, started := if b = true then true else s.started } := by
  cases b <;> simp [State.writeRun]

/-! ### READ at a register's address (46_host_interface.md R161) -/

theorem State.readAddr_globAddr (s : State) (r : GlobReg) : s.readAddr (globAddr r) = s.readGlob r := by
  simp only [State.readAddr, decodeAddr_globAddr]

theorem State.readAddr_chanAddr {s : State} {c : Nat} {ch : Channel} (hn : s.numPairs ≤ 56) (h : s.chan? c = some ch)
    (r : ChReg) : s.readAddr (chanAddr c r) = ch.readReg r := by
  simp only [State.readAddr, decodeAddr_chanAddr hn (State.lt_of_chan? h) r, h, ChReg.ofOffset_offset]

theorem reads_globAddr {s : State} {r : GlobReg} {v : Word} (h : s.readGlob r = v) : reads s (globAddr r) v :=
  reads_of_readAddr ((s.readAddr_globAddr r).trans h)

/-! ### The register tables, as the model's accessors over the register names (10_state.md R30, 30_encoding.md R87) -/

theorem readTable_eq_map (ch : Channel) : readTable ch = ChReg.all.map fun r => (r.offset, ch.readReg r) := by
  simp only [readTable, ← ofNat_toNat_bool]
  rfl

theorem storeTable_eq_map (ch : Channel) (d : Word) :
    storeTable ch d = (ChReg.all.filter ChReg.writable).map fun r => (r, ch.writeReg d r) := by
  simp only [storeTable, extractLsb'_bit0_beq]
  rfl

theorem eq_of_mem_readTable {ch : Channel} {e : Nat × Word} (h : e ∈ readTable ch) :
    ∃ r : ChReg, e = (r.offset, ch.readReg r) := by
  rw [readTable_eq_map] at h
  obtain ⟨r, -, rfl⟩ := List.mem_map.mp h
  exact ⟨r, rfl⟩

theorem eq_of_mem_storeTable {ch : Channel} {d : Word} {e : ChReg × Channel} (h : e ∈ storeTable ch d) :
    ∃ r : ChReg, r.writable = true ∧ e = (r, ch.writeReg d r) := by
  rw [storeTable_eq_map] at h
  obtain ⟨r, hr, rfl⟩ := List.mem_map.mp h
  exact ⟨r, (List.mem_filter.mp hr).2, rfl⟩

/-- The tables of a pair's two channels go through the registers in step. -/
theorem eq_of_mem_zip_storeTable {l r : Channel} {d : Word} {e : (ChReg × Channel) × (ChReg × Channel)}
    (h : e ∈ (storeTable l d).zip (storeTable r d)) :
    ∃ reg : ChReg, reg.writable = true ∧ e = ((reg, l.writeReg d reg), (reg, r.writeReg d reg)) := by
  rw [storeTable_eq_map, storeTable_eq_map, List.zip_map', List.mem_map] at h
  obtain ⟨reg, hreg, rfl⟩ := h
  exact ⟨reg, (List.mem_filter.mp hreg).2, rfl⟩

/-! ### The two channels of a pair (00_scope.md R15) -/

theorem pairOf_left (p : Nat) : pairOf (2 * p) = p := by
  unfold pairOf
  omega

theorem pairOf_right (p : Nat) : pairOf (2 * p + 1) = p := by
  unfold pairOf
  omega

theorem isLeft_left (p : Nat) : isLeft (2 * p) = true := by simp [isLeft]

theorem isLeft_right (p : Nat) : isLeft (2 * p + 1) = false := by
  rw [isLeft, Nat.mul_add_mod]
  rfl

theorem State.chan?_left {s : State} {p : Nat} {pr : Pair} (h : s.pairs[p]? = some pr) : s.chan? (2 * p) = some pr.left := by
  rw [State.chan?, pairOf_left, isLeft_left, h]
  rfl

theorem State.chan?_right {s : State} {p : Nat} {pr : Pair} (h : s.pairs[p]? = some pr) :
    s.chan? (2 * p + 1) = some pr.right := by
  rw [State.chan?, pairOf_right, isLeft_right, h]
  rfl

/-- Replacing both channels of a pair replaces the pair. -/
theorem State.setChan_left_right (s : State) (p : Nat) (l r : Channel) :
    (s.setChan (2 * p) l).setChan (2 * p + 1) r = s.setPair p ⟨l, r⟩ := by
  simp only [State.setChan, State.setPair, pairOf_left, pairOf_right, isLeft_left, isLeft_right, List.modify_modify_eq]
  rfl

/-! ### WRITE.REG and WRITE.PAIR (46_host_interface.md R162, R163) -/

theorem exec_writeReg_chan {s : State} {c : Nat} {ch : Channel} (h : s.chan? c = some ch) (r : ChReg) (d : Word) :
    exec (.writeReg (.chan c r) d) s = .next (s.setChan c (ch.writeReg d r)) :=
  congrArg Host.Outcome.next (State.writeChanReg_some h r d)

theorem exec_writePair {s : State} {p : Nat} {pr : Pair} (h : s.pairs[p]? = some pr) (r : ChReg) (d : Word) :
    exec (.writePair p r d) s = .next (s.setPair p ⟨pr.left.writeReg d r, pr.right.writeReg d r⟩) := by
  have hright (l : Channel) : (s.setChan (2 * p) l).chan? (2 * p + 1) = some pr.right :=
    (State.chan?_setChan_other (by omega)).trans (State.chan?_right h)
  rw [exec, execWritePair, State.writeChanReg_some (State.chan?_left h), State.writeChanReg_some (hright _),
    State.setChan_left_right]

end Machine

open Machine Statements

/-- Settles O17: each row of the table is a register's offset and the value that a READ at its address returns. -/
theorem readOfEachChannelRegister : Obligations.ReadOfEachChannelRegister := by
  unfold Obligations.ReadOfEachChannelRegister
  intro s c ch hn hch e he
  obtain ⟨r, rfl⟩ := eq_of_mem_readTable he
  exact reads_of_readAddr (State.readAddr_chanAddr hn hch r)

/-- Settles O20: each row of the two tables is one writable register, and the two channel writes make the pair write. -/
theorem writePairStoresBothChannels : Obligations.WritePairStoresBothChannels := by
  unfold Obligations.WritePairStoresBothChannels
  intro s p pr d hpr e he
  obtain ⟨r, hr, rfl⟩ := eq_of_mem_zip_storeTable he
  have hp : p < s.numPairs := (List.getElem?_eq_some_iff.mp hpr).1
  exact ⟨exec_writePair hpr r d, fun hn => decode_pairWrite hn hp hr d⟩

/-- Settles O15: of these transactions a void READ alone is answered. -/
theorem nopVoidAndIgnoredChangeNothing : Obligations.NopVoidAndIgnoredChangeNothing := by
  unfold Obligations.NopVoidAndIgnoredChangeNothing
  intro s b d op rsv data
  have void_not_read (hop : op ≠ 1) : exec (.void op rsv b data) s = .next s := if_neg hop
  exact ⟨rfl, rfl, void_not_read, rfl⟩

/-- Settles O16: each address is that of a global register, where the model reads the stated value; CONFIG, CTRL and STATUS are
composed, the others are fields. -/
theorem readOfEachGlobalRegister : Obligations.ReadOfEachGlobalRegister := by
  unfold Obligations.ReadOfEachGlobalRegister
  intro s hn hh
  have config := reads_globAddr (r := .config) (State.configWord_eq hn hh)
  have ctrl := reads_globAddr (r := .ctrl) (ofNat_toNat_bool s.run)
  have status := reads_globAddr (r := .status) s.statusWord_eq
  have field (r : GlobReg) : reads s (globAddr r) (s.readGlob r) := reads_globAddr rfl
  exact ⟨field .id, config, ctrl, status, field .seqAck, field .sampleRate, field .bpm, field .tickRate, field .tickSpeed,
    field .tickCounter, field .countLo, field .countHi, field .nextTickLo, field .nextTickHi, field .outL, field .outR⟩

/-- Settles O19: the three global registers by evaluation, and each row of the table as one writable register of the channel. -/
theorem writeRegStoresTheRegister : Obligations.WriteRegStoresTheRegister := by
  unfold Obligations.WriteRegStoresTheRegister
  intro s d
  refine ⟨rfl, rfl, rfl, decode_globWrite _ .bpm d, decode_globWrite _ .tickRate d, decode_globWrite _ .tickSpeed d, ?_⟩
  intro c ch hch e he
  obtain ⟨r, hr, rfl⟩ := eq_of_mem_storeTable he
  exact ⟨exec_writeReg_chan hch r d, fun hn => decode_chanWrite hn (State.lt_of_chan? hch) hr d⟩

/-- Settles O22: the model's write of RUN takes DATA[0] as a bit. -/
theorem writeCtrlSetsRunAndStarted : Obligations.WriteCtrlSetsRunAndStarted := by
  unfold Obligations.WriteCtrlSetsRunAndStarted
  refine fun s d => ⟨?_, decode_globWrite _ .ctrl d⟩
  have hexec : exec (.writeCtrl d) s = .next (s.writeRun (d.getLsbD 0)) := rfl
  simp only [hexec, State.writeRun_eq, ← extractLsb'_bit0_beq, beq_iff_eq]

/-- Settles O23: WRITE.SEQ_ACK is the return from the callback, which tests SEQ_PENDING. -/
theorem seqAckEndsTheStall : Obligations.SeqAckEndsTheStall := by
  unfold Obligations.SeqAckEndsTheStall
  refine fun s d => ⟨fun hpending => ?_, fun hidle => ?_, decode_globWrite _ .seqAck d⟩
  · exact congrArg Host.Outcome.next (if_pos hpending)
  · exact congrArg Host.Outcome.next (if_neg (by simp [hidle]))

/-- Settles O24: WRITE.SAMPLE_RATE tests STARTED. -/
theorem writeSampleRateBeforeStartOnly : Obligations.WriteSampleRateBeforeStartOnly := by
  unfold Obligations.WriteSampleRateBeforeStartOnly
  refine fun s d => ⟨fun hfresh => ?_, fun hstarted => ?_, decode_globWrite _ .sampleRate d⟩
  · exact congrArg Host.Outcome.next (if_neg (by simp [hfresh]))
  · exact congrArg Host.Outcome.next (if_pos hstarted)

end Sys2Proof
end

section
namespace Sys2Proof.Machine
open Sys2Proof.Statements

/-! ### The callback's entry and the stall (60_exceptions.md R175, R177) -/

/-- Phase A that ends with a callback pending has taken it: phase B, the other way out, leaves SEQ_PENDING as it was. -/
theorem State.phaseA_of_seqPending {wave : WaveFn} {s : State} (hidle : s.seqPending = false)
    (hpending : (s.phaseA wave).seqPending = true) : s.phaseA wave = (s.tickIfDue wave).takeCallback := by
  by_cases hdue : (s.tickIfDue wave).tickSpeed.toNat ≤ (s.tickIfDue wave).tickCounter.toNat
  · exact State.phaseA_of_callbackDue wave hdue
  · rw [State.phaseA_of_not_callbackDue wave hdue] at hpending
    simp [hidle] at hpending

/-- With a callback pending and the host silent, a step changes nothing. -/
theorem step_of_seqPending {s : State} (hpending : s.seqPending = true) (hsilent : s.agenda = []) : step s = .next s := by
  have hturn : fetch s = coreTurn s := by simp only [fetch, hsilent]
  exact step_of_fetch_hold (hturn.trans (coreTurn_stalled (State.enabledOp_of_seqPending hpending)))

/-- A state that a step leaves as it is stays through any number of steps. -/
theorem run_of_step_self {s : State} (h : step s = .next s) (k : Nat) : core.run k s = .next s := by
  induction k with
  | zero => rfl
  | succ k ih =>
    have hstep : core.step s = .next s := h
    simp only [Host.Core.run, hstep, ih]

/-- A tick reaches no sample-rate field (10_state.md R51). -/
theorem sameSampleRate_tick (wave : WaveFn) (g : State) (ch : Channel) : sameSampleRate (ch.tick wave g) ch := by
  simp [sameSampleRate]

theorem State.tickIfDue_sameSampleRate (wave : WaveFn) {s : State} {c : Nat} {ch : Channel} (hc : s.chan? c = some ch) :
    ∃ ch', (s.tickIfDue wave).chan? c = some ch' ∧ sameSampleRate ch' ch := by
  unfold State.tickIfDue
  split
  case isTrue => exact ⟨ch.tick wave s, by rw [State.chan?_tick, hc]; rfl, sameSampleRate_tick wave s ch⟩
  case isFalse => exact ⟨ch, hc, rfl, rfl, rfl, rfl⟩

/-! ### The parameters and RESET (70_reset_and_hazards.md R190) -/

@[simp] theorem State.phaseA_histLog2 (wave : WaveFn) (s : State) : (s.phaseA wave).histLog2 = s.histLog2 := by
  unfold State.phaseA
  split <;> simp

@[simp] theorem State.resetCore_numPairs (s : State) : s.resetCore.numPairs = s.numPairs := by
  simp [State.numPairs]

/-- RESET puts every channel that the core has at its reset values. -/
theorem State.chan?_resetCore {s : State} {c : Nat} (hc : c < 2 * s.numPairs) :
    s.resetCore.chan? c = some Channel.reset := by
  have hp : pairOf c < s.numPairs := by
    unfold pairOf
    omega
  rw [State.chan?, State.resetCore_pairs, List.getElem?_replicate_of_lt hp]
  cases isLeft c <;> rfl

/-! ### READ after WRITE (70_reset_and_hazards.md R196) -/

/-- A field that keeps the low `k` bits of DATA reads back as DATA masked (30_encoding.md R87). -/
theorem zeroExtend_extractLsb'_zero {k : Nat} (hk : k ≤ 32) (d : Word) :
    (d.extractLsb' 0 k).zeroExtend 32 = d &&& BitVec.ofNat 32 (2 ^ k - 1) := by
  have hlt : 2 ^ k - 1 < 2 ^ 32 := lt_of_lt_of_le (Nat.sub_one_lt (by positivity)) (Nat.pow_le_pow_right two_pos hk)
  apply BitVec.eq_of_toNat_eq
  rw [BitVec.toNat_and, BitVec.toNat_ofNat, Nat.mod_eq_of_lt hlt, Nat.and_two_pow_sub_one_eq_mod,
    BitVec.zeroExtend, BitVec.toNat_setWidth_of_le hk, BitVec.extractLsb'_toNat, Nat.shiftRight_zero]

/-- A field that keeps DATA[0] as a bit reads back as DATA masked. -/
theorem ofNat_getLsbD_zero (d : Word) : BitVec.ofNat 32 (d.getLsbD 0).toNat = d &&& 1 := by
  refine Eq.trans ?_ BitVec.and_one_eq_setWidth_ofBool_getLsbD.symm
  cases d.getLsbD 0 <;> rfl

/-- A writable register reads back what R87 keeps of the data written to it. -/
theorem Channel.readReg_writeReg {r : ChReg} (hr : r.writable = true) (ch : Channel) (d : Word) :
    (ch.writeReg d r).readReg r = storedBits r d := by
  cases r
  case mode => exact zeroExtend_extractLsb'_zero (k := 2) (by decide) d
  case tremPhase | vibPhase => exact zeroExtend_extractLsb'_zero (k := 16) (by decide) d
  case noteOn => exact ofNat_getLsbD_zero d
  case phase | period | delay | avg | cursor | tremLevel | vibLevel => cases hr
  all_goals rfl

end Sys2Proof.Machine

namespace Sys2Proof
open Machine Statements

/-- Settles O14: a stalled core with a silent host holds its state at every step. -/
theorem unacknowledgedCallbackHoldsTheCore : Obligations.UnacknowledgedCallbackHoldsTheCore := by
  unfold Obligations.UnacknowledgedCallbackHoldsTheCore
  intro s k hpending hsilent
  exact run_of_step_self (step_of_seqPending hpending hsilent) k

/-- Settles O60: the pending callback was taken right after the tick, and neither the tick nor the entry reaches what phase B
writes. -/
theorem callbackEntryIsPrecise : Obligations.CallbackEntryIsPrecise := by
  unfold Obligations.CallbackEntryIsPrecise
  intro s t hidle hexec hpending
  obtain rfl : s.phaseA Config.waveFn = t := Host.Outcome.next.inj hexec
  rw [State.phaseA_of_seqPending hidle hpending]
  refine ⟨rfl, rfl, by simp, by simp, by simp, by simp, fun hdue => ?_, fun c ch hc => ?_⟩
  · rw [State.takeCallback_nextTick, State.tickIfDue_of_due _ hdue, State.tick_nextTick, toCount_toNat_add]
  · exact State.tickIfDue_sameSampleRate _ hc

/-- Settles O12: RESET and the two phases carry both parameters over, and no transaction writes either. -/
theorem noStepChangesTheParameters : Obligations.NoStepChangesTheParameters := by
  unfold Obligations.NoStepChangesTheParameters
  intro s t hstep
  obtain ⟨a, rfl | ⟨-, rfl⟩ | ⟨-, -, -, rfl⟩ | ⟨-, -, rfl⟩ | ⟨i, ws, -, hdec, hexec⟩⟩ := step_cases hstep
  · exact ⟨rfl, rfl⟩
  · exact ⟨State.resetCore_numPairs _, rfl⟩
  · exact ⟨State.phaseA_numPairs _ _, State.phaseA_histLog2 _ _⟩
  · exact ⟨State.phaseB_numPairs _ _, rfl⟩
  · have hi := decode_isTransaction hdec
    have hnum : t.numPairs = State.numPairs { s with agenda := a } := transaction_numPairs hi hexec
    exact ⟨hnum, (transaction_sameCoreRegs hi hexec).histLog2⟩

/-- Settles O21: the write reaches the channel that the READ then finds, and the register reads back what it keeps. -/
theorem readAfterWriteReturnsTheStoredBits : Obligations.ReadAfterWriteReturnsTheStoredBits := by
  unfold Obligations.ReadAfterWriteReturnsTheStoredBits
  intro s c r d hn hc hr
  obtain ⟨ch, hch⟩ := Option.isSome_iff_exists.mp ((s.chan?_isSome c).mpr hc)
  have hwritten : (s.setChan c (ch.writeReg d r)).chan? c = some (ch.writeReg d r) := State.chan?_setChan_same hc
  have hread := State.readAddr_chanAddr (by simpa using hn) hwritten r
  exact ⟨_, exec_writeReg_chan hch r d, reads_of_readAddr (hread.trans (Channel.readReg_writeReg hr ch d))⟩

/-- Settles O4: the globals are those of the reset state by evaluation, and every channel is the reset channel, whose history is
empty and whose registers but the five named ones are 0. -/
theorem resetLeavesTheResetValues : Obligations.ResetLeavesTheResetValues := by
  unfold Obligations.ResetLeavesTheResetValues
  intro s
  refine ⟨s.resetCore, rfl, rfl, rfl, rfl, rfl, rfl, rfl, rfl, rfl, rfl, rfl, rfl, rfl, rfl, rfl, s.resetCore_numPairs, rfl,
    ?_⟩
  intro c hc
  exact ⟨Channel.reset, State.chan?_resetCore hc, rfl, rfl, rfl, rfl, rfl, Memory.read_nil, by decide⟩

end Sys2Proof
end
